-- ==== Sys2Proof/Word.lean ====
section
/-! DEFINITION. The word and byte types of the RVP core (spec/00_scope.md R6, R17). -/

namespace Sys2Proof

/-- R6: the word width is 64 bits; a raw draw, a register and a command word are one word. -/
abbrev Word := BitVec 64

/-- R42: what a byte-addressed bridge in front of the port would carry. -/
abbrev Byte := BitVec 8

end Sys2Proof
end

