-- ==== Sys2Proof/Config.lean ====
section
/-! DEFINITION. What an implementation fixes (spec/00_scope.md section 4: the parameter record, with the
constraints R7 to R15 put on it) and the free values (R19 `UNSPECIFIED`, and the values
of a table and of a function that the spec does not give).
The DEFAULT values of the record are in Sys2Proof/Machine/Params.lean. -/

namespace Sys2Proof

/-- The parameter record (00_scope.md section 4). R16: read-only constants of the hardware, not state: no
command and no host access changes them. R32: configuration. -/
structure Params where
  /-- R7 `PRNG_INC`. -/
  prngInc : Word
  /-- R7 `PRNG_MUL1`. -/
  prngMul1 : Word
  /-- R7 `PRNG_MUL2`. -/
  prngMul2 : Word
  /-- R8 `EXP2_C[0]`, UQ0.64. -/
  exp2C0 : Word
  /-- R8 `EXP2_C[1]`. -/
  exp2C1 : Word
  /-- R8 `EXP2_C[2]`. -/
  exp2C2 : Word
  /-- R8 `EXP2_C[3]`. -/
  exp2C3 : Word
  /-- R8 `EXP2_C[4]`. -/
  exp2C4 : Word
  /-- R9 `LOG2_K1`, Q3.61. -/
  log2K1 : Word
  /-- R9 `LOG2_K3`. -/
  log2K3 : Word
  /-- R9 `LOG2_K5`. -/
  log2K5 : Word
  /-- R9 `LOG2_K7`. -/
  log2K7 : Word
  /-- R11 `T_SMALL`, Q32.32. -/
  tSmall : Int
  /-- R11 `T_MED`, Q32.32. -/
  tMed : Int
  /-- R15 `RATE_MAX`, a signed 64-bit value. -/
  rateMax : Int
  /-- R13 `C_B0`, Q32.32, as all of the following up to `c1_12`. -/
  cB0 : Int
  /-- R13 `C_B1`. -/
  cB1 : Int
  /-- R13 `C_A0`. -/
  cA0 : Int
  /-- R13 `C_A1`. -/
  cA1 : Int
  /-- R13 `C_VR0`. -/
  cVR0 : Int
  /-- R13 `C_VR1`. -/
  cVR1 : Int
  /-- R13 `C_IA0`. -/
  cIA0 : Int
  /-- R13 `C_IA1`. -/
  cIA1 : Int
  /-- R13 `C_IA2`. -/
  cIA2 : Int
  /-- R13 `C_086`. -/
  c086 : Int
  /-- R13 `C_043`. -/
  c043 : Int
  /-- R13 `C_093`. -/
  c093 : Int
  /-- R13 `C_0445`. -/
  c0445 : Int
  /-- R13 `C_0013`. -/
  c0013 : Int
  /-- R13 `C_TWO`. -/
  cTwo : Int
  /-- R13 `C_HALF`. -/
  cHalf : Int
  /-- R13 `C_LNSQRT2PI`. -/
  cLnSqrt2Pi : Int
  /-- R13 `C_1_12`. -/
  c1_12 : Int
  /-- R13 `K_TABLE`, an integer. -/
  kTable : Int
  /-- R14 `LNFACT[0..9]`, Q32.32. -/
  lnFact : List Int
  deriving DecidableEq, Repr

/-- R7: all three stream constants are odd and the multipliers differ. -/
def Params.streamOk (p : Params) : Bool :=
  p.prngInc.toNat % 2 == 1 && p.prngMul1.toNat % 2 == 1 && p.prngMul2.toNat % 2 == 1
    && p.prngMul1 != p.prngMul2

/-- The four values the Horner evaluation of R72 takes at the largest operand, `x = 2^32 − 1`. R72: every
step is non-decreasing in the operand, so these are the largest values of each step. -/
def Params.hornerTop (p : Params) : List Nat :=
  let top := (2 ^ 32 - 1) * 2 ^ 32
  let h3 := p.exp2C4.toNat * top / 2 ^ 64 + p.exp2C3.toNat
  let h2 := h3 * top / 2 ^ 64 + p.exp2C2.toNat
  let h1 := h2 * top / 2 ^ 64 + p.exp2C1.toNat
  let h0 := h1 * top / 2 ^ 64 + p.exp2C0.toNat
  [h3, h2, h1, h0]

/-- R8: `EXP2_C[0] ≥ 2^63`, and no step of the Horner evaluation exceeds `2^64 − 1`. -/
def Params.exp2Ok (p : Params) : Bool :=
  decide (2 ^ 63 ≤ p.exp2C0.toNat) && p.hornerTop.all (fun h => decide (h < 2 ^ 64))

/-- R9, R18, U18: the four coefficients are positive as the signed Q3.61 values they are, so that bit 63 is
clear. -/
def Params.log2Ok (p : Params) : Bool :=
  decide (0 < p.log2K1.toInt) && decide (0 < p.log2K3.toInt) && decide (0 < p.log2K5.toInt)
    && decide (0 < p.log2K7.toInt)

/-- R11: `0 < T_SMALL < T_MED` and `16·2^32 ≤ T_MED ≤ 20000·2^32`. -/
def Params.thresholdsOk (p : Params) : Bool :=
  decide (0 < p.tSmall) && decide (p.tSmall < p.tMed)
    && decide (16 * 2 ^ 32 ≤ p.tMed) && decide (p.tMed ≤ 20000 * 2 ^ 32)

/-- R18: whether an integer is a signed 64-bit value, the range of Q32.32. -/
def fitsSigned64 (v : Int) : Bool := decide (-2 ^ 63 ≤ v) && decide (v < 2 ^ 63)

/-- The constants of R13, in the table's order. -/
def Params.ptrsConstants (p : Params) : List Int :=
  [p.cB0, p.cB1, p.cA0, p.cA1, p.cVR0, p.cVR1, p.cIA0, p.cIA1, p.cIA2, p.c086, p.c043, p.c093, p.c0445,
    p.c0013, p.cTwo, p.cHalf, p.cLnSqrt2Pi, p.c1_12, p.kTable]

/-- R13, R18, U20: every PTRS constant is in the range of Q32.32, `K_TABLE` with them. -/
def Params.ptrsOk (p : Params) : Bool := p.ptrsConstants.all fitsSigned64

/-- R14: the log-factorial table has the ten entries `k = 0..9`, each in the range of Q32.32. R15: `RATE_MAX`
is a signed 64-bit value. -/
def Params.tablesOk (p : Params) : Bool :=
  p.lnFact.length == 10 && p.lnFact.all fitsSigned64 && fitsSigned64 p.rateMax

/-- The constraints of R7 to R15 on a parameter record. -/
def Params.valid (p : Params) : Bool :=
  p.streamOk && p.exp2Ok && p.log2Ok && p.thresholdsOk && p.ptrsOk && p.tablesOk

/-- R19, R43, U6: what a read of `RES0`, `RES1` or `STREAM` returns while `BUSY = 1`. It has no body:
nothing can be proved of it. Applied to the counter `Env.freeCount`, so that each such read may return
another value (notes/assumptions/1.md). -/
opaque Config.unspecified : Nat → Word

/-- The entry `LNFACT[k]` for a `k` past the table's end, which R14 does not give. DESIGN CHOICE: only a build
whose `K_TABLE` is above 10 (U20) asks for one, and there it is a free value, of which nothing can be proved
(notes/assumptions/20.md). -/
opaque Config.lnFactBeyond : Nat → Int

/-- The value of `log2_fix(0)`, which R78 does not define. DESIGN CHOICE: no command and no run of the default
build asks for it, and where the function is applied to 0 all the same it is a free value
(notes/assumptions/22.md). -/
opaque Config.log2OfZero : Int

end Sys2Proof
end

