-- ==== Sys2Proof/Syntax.lean ====
section
/-! DEFINITION. The commands of the block (spec/30_encoding.md R52), and what the host can do at the port:
register accesses (spec/20_memory.md R41), the `wait` directive (R56) and reset (R150). -/

namespace Sys2Proof

/-- The twelve commands, one per row of spec/opcode_table.json. R50: a command has no operand field of any
kind, so no constructor takes an argument; operands are always `OPA`, `OPB` and results `RES0`, `RES1`. -/
inductive Instr where
  /-- `NOP`, opcode 0x00 (R63). -/
  | nop
  /-- `NEXT`, opcode 0x01 (R62). -/
  | next
  /-- `MULHU`, opcode 0x10 (R66). -/
  | mulhu
  /-- `MULHS`, opcode 0x11 (R67). -/
  | mulhs
  /-- `MULU`, opcode 0x12 (R68). -/
  | mulu
  /-- `MULS`, opcode 0x13 (R69). -/
  | muls
  /-- `EXP2`, opcode 0x20 (R73). -/
  | exp2
  /-- `LOG2N`, opcode 0x21 (R77). -/
  | log2n
  /-- `LOG2`, opcode 0x22 (R79). -/
  | log2
  /-- `LN`, opcode 0x23 (R81). -/
  | ln
  /-- `SQRT`, opcode 0x24 (R85). -/
  | sqrt
  /-- `POIS`, opcode 0x30 (R91). -/
  | pois
  deriving DecidableEq, Repr

/-- The nine host-visible registers of R20 (a) and R40. -/
inductive Reg where
  | id | cmd | status | cause | opa | opb | res0 | res1 | stream
  deriving DecidableEq, Repr

/-- One host access to the register port (R41): `MemRead(off, width)` or `MemWrite(off, width, v)`, the
width in bytes. R41 gives a meaning to width 8 at aligned offsets only; the others are terms here so that
the machine can refuse them by name. -/
inductive Access where
  | read (off width : Nat)
  | write (off width : Nat) (v : Word)
  deriving DecidableEq, Repr

/-- One entry of the schedule that says who moves next. R46 serves the port one access at a time; R60 and
R158 let the block take any number of steps between two accesses, zero included. -/
inductive Event where
  /-- The host presents an access. -/
  | access (a : Access)
  /-- R56 `wait`: repeat `rd STATUS` until the value read has `BUSY = 0`. -/
  | wait
  /-- No access now: the block takes a step of its own if `BUSY = 1` (R60). -/
  | block
  /-- The reset input is asserted and released (R150). -/
  | reset
  deriving DecidableEq, Repr

end Sys2Proof
end

