-- ==== Sys2Proof/Machine/State.lean ====
section
/-! DEFINITION. The state of one RVP core instance (spec/10_state.md R20 to R33) as plain data, the model's
own bookkeeping beside it, and the state right after reset. -/

namespace Sys2Proof.Machine

/-- The values `CAUSE[7:0]` takes (R131, U11: exactly five). -/
inductive Cause where
  /-- Code 0: `STATUS.ERR = 0`. -/
  | noFault
  /-- Code 1, `ILLEGAL_CMD` (R132). -/
  | illegalCmd
  /-- Code 2, `NOSEED` (R133). -/
  | noSeed
  /-- Code 3, `DOMAIN` (R137). -/
  | domain
  /-- Code 4, `RATE_RANGE` (R134). -/
  | rateRange
  deriving DecidableEq, Repr

/-- `STATUS` (R24): its five flags. Bits 63:5 hold nothing: they read 0 and writes to them are ignored. -/
structure Status where
  /-- Bit 0, `BUSY`. -/
  busy : Bool
  /-- Bit 1, `DONE`. -/
  done : Bool
  /-- Bit 2, `ERR`. -/
  err : Bool
  /-- Bit 3, `SEEDED`. -/
  seeded : Bool
  /-- Bit 4, `OVR`. -/
  ovr : Bool
  deriving DecidableEq, Repr

/-- One lane of a batch snapshot (R29). -/
structure Lane where
  /-- The mantissa, 16 bits unsigned (UQ0.16). -/
  a : BitVec 16
  /-- The digit count, 16 bits signed. -/
  d : BitVec 16
  deriving DecidableEq, Repr

/-- A batch snapshot: 16 lanes (R6, R29). -/
abbrev Snapshot := Vector Lane 16

/-- The lane file: the two-slot ring of batch snapshots (R29). -/
structure LaneFile where
  cur : Snapshot
  prev : Snapshot
  deriving DecidableEq, Repr

/-- The sampler working registers of R30. Where the spec names a register as an integer with a bound
that holds (R17, R30, R111), the field is that integer. -/
structure Work where
  /-- `n`, the digit budget, unsigned. -/
  n : Nat
  /-- `E64`, the starting mantissa. -/
  E64 : Word
  /-- `acc`, the scalar accumulator. -/
  acc : Word
  /-- `B`, the signed digit balance of the scalar regime. -/
  B : Int
  /-- `k`, the count, or a PTRS candidate before its range check. -/
  k : Int
  /-- `smu` (R113). -/
  smu : Int
  /-- `b` (R113). -/
  b : Int
  /-- `a` (R113). -/
  a : Int
  /-- `vr` (R113). -/
  vr : Int
  /-- `inv_alpha` (R113). -/
  invAlpha : Int
  /-- `vr86` (R113). -/
  vr86 : Int
  /-- `lnu` (R113), signed. -/
  lnu : Int
  /-- `V` (R112, R117). -/
  V : Int
  /-- `t` (R117). -/
  t : Int
  /-- `U` (R116, R117), signed. -/
  U : Int
  /-- `us` (R116, R117). -/
  us : Int
  /-- `den` (R118). -/
  den : Int
  /-- `Vp` (R118). -/
  Vp : Int
  /-- `lhs` (R119, R120), signed. -/
  lhs : Int
  /-- `rhs0` (R119), signed. -/
  rhs0 : Int
  /-- `rhs` (R120), signed. -/
  rhs : Int
  /-- `corr` (R119). -/
  corr : Int
  deriving DecidableEq, Repr

/-- Where in a `POIS` command the engine is. R23 counts this among the sequencing state ("says where in
the sampler's loop the engine is"); R32 lets a model take one sampler loop iteration as one step. -/
inductive Engine where
  /-- No sampler loop is open: the next block step decodes and checks the command (R60 steps 1 and 2). -/
  | start
  /-- At the top of the loop of R94. -/
  | scalar
  /-- At the top of the loop of R102. -/
  | lanes
  /-- At the top of the loop of R121. -/
  | ptrs
  deriving DecidableEq, Repr

/-- The MODEL's own bookkeeping, no state of the block: what the host will do, what it was told, and how
many `UNSPECIFIED` values have been used (notes/assumptions/1.md and 3.md). -/
structure Env where
  /-- What happens next, first entry first. When it is empty the host makes no further access. -/
  agenda : List Event
  /-- The values host reads have returned, the latest first. -/
  readLog : List Word
  /-- How many reads have returned `UNSPECIFIED`. -/
  freeCount : Nat
  deriving DecidableEq, Repr

/-- The complete state of one instance (R20). `ID` is a constant (R27): it is hard-wired in the one
operation that reads registers, `Sys2Proof.Machine.regValue`. -/
structure State where
  /-- `CMD` (R26): the last accepted command word. -/
  cmd : Word
  /-- `STATUS` (R24). -/
  status : Status
  /-- `CAUSE` (R25). -/
  cause : Cause
  /-- `OPA` (R21). -/
  opa : Word
  /-- `OPB` (R21). -/
  opb : Word
  /-- `RES0` (R22). -/
  res0 : Word
  /-- `RES1` (R22). -/
  res1 : Word
  /-- `STREAM` (R28). -/
  stream : Word
  /-- The lane file (R29). -/
  lanes : LaneFile
  /-- The sampler working registers (R30). -/
  work : Work
  /-- The sampler's position (R23). -/
  engine : Engine
  /-- The model's own bookkeeping. -/
  env : Env
  deriving DecidableEq, Repr

/-- Reasons the machine stops with a fault: none. The block's own faults (R130 to R137) are an effect of a
command, taken as next states (R135), and the spec leaves no behaviour undefined
(spec/93_implementation_defined.md: "Nothing in the block has behaviour that is undefined"). -/
inductive Fault where
  deriving DecidableEq, Repr

/-- Reasons the machine refuses to go on. -/
inductive Refusal where
  /-- Raised by `exec` alone, for an instruction without a meaning. No arm raises it. Safe. -/
  | notModelled (mnemonic : String)
  /-- Raised by `step` when the host presents an access that R41 gives no meaning: another width than 8
  bytes, an offset that is not a multiple of 8, or one outside `[0, 0xF8]` (U10: `refuse`). Safe: the
  spec says such an access is not a step of the host. -/
  | notAnAccess (a : Access)
  deriving DecidableEq, Repr

/-- R33 `STATUS` after reset. -/
def Status.reset : Status :=
  { busy := false, done := false, err := false, seeded := false, ovr := false }

/-- R33: "unspecified; never read before written". The model names zero (notes/assumptions/4.md). -/
def LaneFile.reset : LaneFile :=
  { cur := Vector.replicate 16 ⟨0#16, 0#16⟩, prev := Vector.replicate 16 ⟨0#16, 0#16⟩ }

/-- R33: "unspecified; never read before written". The model names zero (notes/assumptions/4.md). -/
def Work.reset : Work :=
  { n := 0, E64 := 0, acc := 0, B := 0, k := 0,
    smu := 0, b := 0, a := 0, vr := 0, invAlpha := 0, vr86 := 0, lnu := 0,
    V := 0, t := 0, U := 0, us := 0, den := 0, Vp := 0, lhs := 0, rhs0 := 0, rhs := 0, corr := 0 }

/-- The machine right after reset (R33, R150): idle, with no access pending. -/
def State.reset : State :=
  { cmd := 0, status := Status.reset, cause := .noFault,
    opa := 0, opb := 0, res0 := 0, res1 := 0, stream := 0,
    lanes := LaneFile.reset, work := Work.reset, engine := .start,
    env := { agenda := [], readLog := [], freeCount := 0 } }

end Sys2Proof.Machine
end

