-- ==== Sys2Proof/Machine/Flags.lean ====
section
/-! DEFINITION. `STATUS` and `CAUSE` as words (spec/10_state.md R24, R25), and every change the spec makes to
the flags. -/

namespace Sys2Proof.Machine

/-- R24: `STATUS` as a host reads it; bits 63:5 are 0. -/
def statusWord (f : Status) : Word :=
  (if f.busy then 0x01#64 else 0) ||| (if f.done then 0x02#64 else 0) ||| (if f.err then 0x04#64 else 0)
    ||| (if f.seeded then 0x08#64 else 0) ||| (if f.ovr then 0x10#64 else 0)

/-- R131: the cause codes. -/
def causeCode : Cause → BitVec 8
  | .noFault => 0
  | .illegalCmd => 1
  | .noSeed => 2
  | .domain => 3
  | .rateRange => 4

/-- R25: `CAUSE` as a host reads it; bits 63:8 are 0. -/
def causeWord (c : Cause) : Word := (causeCode c).setWidth 64

/-- R60 issue: `DONE <- 0`, `BUSY <- 1`. -/
def flagsIssued (f : Status) : Status := { f with done := false, busy := true }

/-- R60 step 4: `BUSY <- 0`, `DONE <- 1`. -/
def flagsCompleted (f : Status) : Status := { f with busy := false, done := true }

/-- R135: `ERR <- 1`, `BUSY <- 0`, `DONE <- 0`. -/
def flagsFaulted (f : Status) : Status := { f with err := true, busy := false, done := false }

/-- R44: a dropped write sets `OVR`. -/
def flagsOverrun (f : Status) : Status := { f with ovr := true }

/-- R24, R44: a host write to `STATUS`: bit 2 clears `ERR`, bit 4 clears `OVR`, the rest is ignored. -/
def flagsWritten (v : Word) (f : Status) : Status :=
  { f with err := f.err && !v.getLsbD 2, ovr := f.ovr && !v.getLsbD 4 }

/-- R44: what a host write to `STATUS` does to `CAUSE`: bit 2 clears it together with `ERR`. -/
def causeWritten (v : Word) (c : Cause) : Cause := if v.getLsbD 2 then .noFault else c

/-- R44: a host write to `STREAM` that is taken sets `SEEDED`. -/
def flagsSeeded (f : Status) : Status := { f with seeded := true }

end Sys2Proof.Machine
end

