-- ==== Sys2Proof/Machine/Params.lean ====
section
/-! DEFINITION. The default parameter record of the spec (spec/00_scope.md R7 to R15), which is the build the
machine stands for, and the constants that are fixed by their definitions (R9, R10, R12; U22). -/

namespace Sys2Proof.Machine

/-- The default values of R7, R8, R9, R11, R13, R14 and R15 (notes/assumptions/2.md). -/
def params : Params where
  prngInc  := 0x60BEE2BEE120FC15#64
  prngMul1 := 0xA3B195354A39B70D#64
  prngMul2 := 0x1B03738712FAD5C9#64
  exp2C0 := 0x80001F13478510A6#64
  exp2C1 := 0x58B31D290BBAC45D#64
  exp2C2 := 0x1EEE0232E1840CA6#64
  exp2C3 := 0x069DCA270A78863C#64
  exp2C4 := 0x01C0D856793E8772#64
  log2K1 := 0x5C551D939CAE3DE5#64
  log2K3 := 0x1EC70E607E70C1E1#64
  log2K5 := 0x127471B949FBDABE#64
  log2K7 := 0x0DD0C7C3079EEF35#64
  tSmall := 0x0000001200000000
  tMed   := 0x0000002600000000
  rateMax := 0x7FFFFFFFFFFFFFFF
  cB0 := 0xEE560419
  cB1 := 0x287AE147B
  cA0 := 0x0F1A9FBE
  cA1 := 0x065B4246
  cVR0 := 0xED7DBF48
  cVR1 := 0x39F559B3D
  cIA0 := 0x11FB7E910
  cIA1 := 0x121FF2E49
  cIA2 := 0x366666666
  c086 := 0xDC28F5C3
  c043 := 0x6E147AE1
  c093 := 0xEE147AE1
  c0445 := 0x71EB851F
  c0013 := 0x0353F7CF
  cTwo := 0x200000000
  cHalf := 0x80000000
  cLnSqrt2Pi := 0xEB3F8E43
  c1_12 := 0x15555555
  kTable := 10
  lnFact :=
    [ 0x000000000, 0x000000000, 0x0B17217F8, 0x1CAB0BFA3, 0x32D94EF92,
      0x4C9990F11, 0x69449CEB4, 0x88670F997, 0xA9AC7417E, 0xCCD4490D4 ]

/-- R9 `SQRT2_Q63 = floor(√2 · 2^63)`. -/
def sqrt2Q63 : Nat := 0xB504F333F9DE6484

/-- R9 `LN2_Q63 = floor(ln 2 · 2^63)`. -/
def ln2Q63 : Int := 0x58B90BFBE8E7BCD5

/-- R10 `SQRT_C73 = floor(7/3 · 2^62)`. -/
def sqrtC73 : Int := 0x9555555555555555

/-- R10 `SQRT_C43 = floor(4/3 · 2^62)`. -/
def sqrtC43 : Nat := 0x5555555555555555

/-- R10 `SQRT_ITERS`. -/
def sqrtIters : Nat := 4

/-- R12 `LOG2E_Q62 = floor(log2(e) · 2^62)`. -/
def log2eQ62 : Int := 0x5C551D94AE0BF85D

end Sys2Proof.Machine
end

