-- ==== Sys2Proof/Machine/Operands.lean ====
section
/-! DEFINITION. The arithmetic primitives of the pseudocode (spec/00_scope.md R17, R19), the fields cut from a
raw draw (D16), and the register map (spec/20_memory.md R40). -/

namespace Sys2Proof.Machine

/-- R17 `s64`: a pattern read as two's complement. -/
def s64 (p : Word) : Int := p.toInt

/-- R17 `u64`: the pattern of an integer modulo `2^64`. -/
def u64 (v : Int) : Word := BitVec.ofInt 64 v

/-- R17 `v >> s` on an integer of either sign: `floor(v / 2^s)`. -/
def asr (v : Int) (s : Nat) : Int := v / 2 ^ s

/-- R17 `floor(p/q)`: the greatest integer not above `p/q`. DESIGN CHOICE for `q = 0`, where the rule gives no
value and R111 no case in the default build: 0 (notes/assumptions/21.md). -/
def floorDiv (p q : Int) : Int := Int.fdiv p q

/-- R19 `clz64`: `clz64(0) = 64`; for `p > 0`, `63 − floor(log2 p)`. -/
def clz64 (p : Word) : Nat := if p = 0 then 64 else 63 - p.toNat.log2

/-- R19 `clz32`: `clz32(0) = 32`; for `p > 0`, `31 − floor(log2 p)`. -/
def clz32 (p : BitVec 32) : Nat := if p = 0 then 32 else 31 - p.toNat.log2

/-- R65: the exact 128-bit unsigned product of two patterns. -/
def product (a b : Word) : BitVec 128 := BitVec.ofNat 128 (a.toNat * b.toNat)

/-- Bits 127:64 of a 128-bit value. -/
def highWord (v : BitVec 128) : Word := v.extractLsb' 64 64

/-- Bits 63:0 of a 128-bit value. -/
def lowWord (v : BitVec 128) : Word := v.extractLsb' 0 64

/-- R19 `mulhu(a,b) = floor(a·b / 2^64)` for patterns. -/
def mulhu (a b : Word) : Word := highWord (product a b)

/-- R19 `qmul(a,b) = floor(a·b / 2^32)`: the Q32.32 product. -/
def qmul (a b : Int) : Int := asr (a * b) 32

/-- R19 `qdiv(a,b) = floor(a·2^32 / b)`: the Q32.32 quotient. -/
def qdiv (a b : Int) : Int := floorDiv (a * 2 ^ 32) b

/-- R17 `zext_32`: a 32-bit value extended with zeros to a word. -/
def zext32 (v : BitVec 32) : Word := v.setWidth 64

/-- R112: the upper 32 bits of a raw draw, UQ0.32. -/
def upperHalf (r : Word) : Int := ((r.extractLsb' 32 32).toNat : Int)

/-- R98: lane `j`'s 16-bit uniform, bits `16(j mod 4)+15 : 16(j mod 4)` of draw `j div 4`. -/
def laneUniform (w : Vector Word 4) (j : Fin 16) : BitVec 16 :=
  (w[j.val / 4]'(by omega)).extractLsb' (16 * (j.val % 4)) 16

/-- R40: the offset at which a register stands. -/
def regOffset : Reg → Nat
  | .id => 0x00
  | .cmd => 0x08
  | .status => 0x10
  | .cause => 0x18
  | .opa => 0x20
  | .opb => 0x28
  | .res0 => 0x30
  | .res1 => 0x38
  | .stream => 0x40

/-- R40: the register at an offset; `none` for the reserved offsets. -/
def regAt (off : Nat) : Option Reg :=
  [Reg.id, .cmd, .status, .cause, .opa, .opb, .res0, .res1, .stream].find? (fun r => regOffset r == off)

/-- R42: the byte a bridge carries for byte `i` of a register's value, bits `8i+7 : 8i`. -/
def bridgeByte (v : Word) (i : Nat) : Byte := v.extractLsb' (8 * i) 8

end Sys2Proof.Machine
end

