-- ==== Sys2Proof/Machine/Ops.lean ====
section
/-! DEFINITION. The named operations over the state: the life of a command (spec/40_control_stream.md R60),
taking a fault and clearing it (spec/60_exceptions.md R135, R139), the raw draw (R19, R61), and the updates
of single registers that the command files use. -/

namespace Sys2Proof.Machine

/-- What a meaning or a block step answers. -/
abbrev Result := Host.Outcome State Fault Refusal

/-! ### Updates of single pieces of state -/

/-- Write `RES0`. -/
def setRes0 (v : Word) (s : State) : State := { s with res0 := v }

/-- Write `RES1`. -/
def setRes1 (v : Word) (s : State) : State := { s with res1 := v }

/-- Write `STREAM` (without the flag). -/
def setStream (v : Word) (s : State) : State := { s with stream := v }

/-- Write `OPA`. -/
def setOpa (v : Word) (s : State) : State := { s with opa := v }

/-- Write `OPB`. -/
def setOpb (v : Word) (s : State) : State := { s with opb := v }

/-- Write the flags. -/
def setStatus (f : Status) (s : State) : State := { s with status := f }

/-- Write the cause. -/
def setCause (c : Cause) (s : State) : State := { s with cause := c }

/-- Write the lane file. -/
def setLanes (l : LaneFile) (s : State) : State := { s with lanes := l }

/-- Write the working registers. -/
def setWork (w : Work) (s : State) : State := { s with work := w }

/-- Move the sampler. -/
def setEngine (e : Engine) (s : State) : State := { s with engine := e }

/-- Change the model's own bookkeeping. -/
def setEnv (e : Env) (s : State) : State := { s with env := e }

/-- The schedule that remains. -/
def setAgenda (l : List Event) (s : State) : State := { s with env := { s.env with agenda := l } }

/-! ### The life of a command -/

/-- R60 `issue(w)`: `CMD <- w`, `DONE <- 0`, `BUSY <- 1`. The next block step decodes the word. -/
def issue (w : Word) (s : State) : State :=
  { s with cmd := w, status := flagsIssued s.status, engine := .start }

/-- R60 step 4 without result registers: `BUSY <- 0`, `DONE <- 1`. DESIGN CHOICE: the lane file and the working
registers keep what the command left in them, where U12 allows any value between commands
(notes/assumptions/4.md). -/
def complete (s : State) : State :=
  { s with status := flagsCompleted s.status, engine := .start }

/-- R60 step 4 of a command with one result: `RES0` and the flags in one step. R22: `RES1` unchanged. -/
def completeRes0 (v : Word) (s : State) : State := complete (setRes0 v s)

/-- R60 step 4 of a command with two results. -/
def completeBoth (hi lo : Word) (s : State) : State := complete (setRes1 lo (setRes0 hi s))

/-! ### Faults -/

/-- R135 `raise Fault(c)`, the one exception mechanism of the block (R130), in one step: `CAUSE <- c`,
`ERR <- 1`, `BUSY <- 0`, `DONE <- 0`; nothing else changes. The command ends. -/
def raiseFault (c : Cause) (s : State) : State :=
  { s with cause := c, status := flagsFaulted s.status, engine := .start }

/-- R139, the analogue of a return from the fault: `ERR <- 0`, `CAUSE <- 0`; nothing else changes. -/
def clearFault (s : State) : State :=
  { s with cause := .noFault, status := { s.status with err := false } }

/-! ### Raw draws -/

/-- One round of R61: multiply to 128 bits, then xor the halves together. -/
def mixRound (x m : Word) : Word := highWord (product x m) ^^^ lowWord (product x m)

/-- R61 `next_raw(s)`: the output and the new state. -/
def nextRaw (p : Params) (s : Word) : Word × Word :=
  let s' := s + p.prngInc
  (mixRound (mixRound s' p.prngMul1) p.prngMul2, s')

/-- R19 `draw()`: the value yielded and the state with `STREAM` advanced. -/
def draw (p : Params) (s : State) : Word × State :=
  ((nextRaw p s.stream).1, setStream (nextRaw p s.stream).2 s)

end Sys2Proof.Machine
end

