-- ==== Sys2Proof/Machine/Control.lean ====
section
/-! DEFINITION. `NOP` and `NEXT` (spec/40_control_stream.md). -/

namespace Sys2Proof.Machine

/-- R63 `NOP`: completes and does nothing else. -/
def execNop (s : State) : Result := .next (complete s)

/-- R62 `NEXT` on a block with the parameter record `p`: `NOSEED` when the host has not written `STREAM`
since reset (R133), else one raw draw into `RES0`. -/
def nextWith (p : Params) (s : State) : Result :=
  if s.status.seeded = false then .next (raiseFault .noSeed s)
  else .next (completeRes0 (draw p s).1 (draw p s).2)

/-- R62 `NEXT`. -/
def execNext (s : State) : Result := nextWith params s

end Sys2Proof.Machine
end

