-- ==== Sys2Proof/Machine/Elementary.lean ====
section
/-! DEFINITION. The elementary-function evaluators (spec/42_elementary.md): each as a function on integers,
which the samplers also call, and as the command that applies it to `OPA`. R70: integers only; every
division and every right shift is a floor. -/

namespace Sys2Proof.Machine

/-! ### Base-2 exponential -/

/-- One Horner step of R72: `mulhu(acc, X) + c`. -/
def hornerStep (acc X : Nat) (c : Word) : Nat := acc * X / 2 ^ 64 + c.toNat

/-- R72: the accumulator after the four Horner steps, UQ0.64, on the operand widened to `X = x << 32`. -/
def expAcc (p : Params) (x : Nat) : Nat :=
  let X := x * 2 ^ 32
  hornerStep (hornerStep (hornerStep (hornerStep p.exp2C4.toNat X p.exp2C3) X p.exp2C2) X p.exp2C1) X p.exp2C0

/-- R72 `exp2_fix(x)`, `x` in `[0, 2^32)`. -/
def expFix (p : Params) (x : Nat) : Nat := expAcc p x / 2 ^ 32

/-- R73 `EXP2`: `DOMAIN` when any of `OPA[63:32]` is set. -/
def exp2With (p : Params) (s : State) : Result :=
  if s.opa.extractLsb' 32 32 ≠ 0#32 then .next (raiseFault .domain s)
  else .next (completeRes0 (zext32 (BitVec.ofNat 32 (expFix p (s.opa.extractLsb' 0 32).toNat))) s)

/-- R73 `EXP2`. -/
def execExp2 (s : State) : Result := exp2With params s

/-! ### Base-2 logarithm -/

/-- R75: `T`, the odd variable `t = (m' − 1)/(m' + 1)` as a signed Q0.64, for the mantissa `xn` with the
centring switch `e` (`e` true: `m' = m/2`). -/
def logT (e : Bool) (xn : Nat) : Int :=
  let one : Int := if e then 2 ^ 64 else 2 ^ 63
  floorDiv (((xn : Int) - one) * 2 ^ 64) ((xn : Int) + one)

/-- One step of R75: `((acc * S) >> 64) + c`. -/
def logStep (acc S : Int) (c : Word) : Int := asr (acc * S) 64 + c.toNat

/-- R75: the polynomial `K1 + K3 S + K5 S² + K7 S³`, Q3.61. -/
def logPoly (p : Params) (S : Int) : Int :=
  logStep (logStep (logStep p.log2K7.toNat S p.log2K5) S p.log2K3) S p.log2K1

/-- R75 `log2m(xn)`, `xn` in `[2^63, 2^64)`. -/
def log2m (p : Params) (xn : Nat) : Int :=
  let e := decide (xn > sqrt2Q63)
  let T := logT e xn
  let S := asr (T * T) 64
  let Lp := asr (logPoly p S * T) 64
  (if e then 2 ^ 63 else 0) + 4 * Lp

/-- R77 `LOG2N`: `DOMAIN` when `OPA[63] = 0`. -/
def log2nWith (p : Params) (s : State) : Result :=
  if s.opa.getLsbD 63 = false then .next (raiseFault .domain s)
  else .next (completeRes0 (u64 (log2m p s.opa.toNat)) s)

/-- R77 `LOG2N`. -/
def execLog2n (s : State) : Result := log2nWith params s

/-- R78 `log2_fix(x)`, `x` in `[1, 2^64)`. DESIGN CHOICE for 0, where R78 defines no value: a free value
(notes/assumptions/22.md). -/
def log2Fix (p : Params) (x : Word) : Int :=
  if x = 0 then Config.log2OfZero
  else (31 - (clz64 x : Int)) * 2 ^ 32 + asr (log2m p (x <<< clz64 x).toNat) 31

/-- R79 `LOG2`: `DOMAIN` when `OPA = 0`. -/
def log2With (p : Params) (s : State) : Result :=
  if s.opa = 0 then .next (raiseFault .domain s)
  else .next (completeRes0 (u64 (log2Fix p s.opa)) s)

/-- R79 `LOG2`. -/
def execLog2 (s : State) : Result := log2With params s

/-- R80 `ln_fix(x)`, `x` in `[1, 2^64)`. DESIGN CHOICE for 0: the free value of `log2Fix`, rescaled
(notes/assumptions/22.md). -/
def lnFix (p : Params) (x : Word) : Int := asr (log2Fix p x * ln2Q63) 63

/-- R81 `LN`: `DOMAIN` when `OPA = 0`. -/
def lnWith (p : Params) (s : State) : Result :=
  if s.opa = 0 then .next (raiseFault .domain s)
  else .next (completeRes0 (u64 (lnFix p s.opa)) s)

/-- R81 `LN`. -/
def execLn (s : State) : Result := lnWith params s

/-! ### Square root -/

/-- One Newton-Raphson iteration of R83 on the reciprocal root `y` of the normalised operand `xn`. -/
def newtonStep (xn y : Int) : Int :=
  let y2 := asr (y * y) 64
  let my2 := asr (xn * y2) 64
  let h := 3 * 2 ^ 59 - asr my2 1
  asr (y * h) 60

/-- `k` iterations of R83. -/
def newton (xn : Int) : Nat → Int → Int
  | 0, y => y
  | k + 1, y => newton xn k (newtonStep xn y)

/-- R83: the even shift `z = clz64(x) − (clz64(x) mod 2)`. -/
def sqrtShift (x : Word) : Nat := clz64 x - clz64 x % 2

/-- R83: the start value `7/3 − (4/3) x'`, UQ2.62. -/
def sqrtStart (xn : Int) : Int := sqrtC73 - asr (xn * sqrtC43) 64

/-- R83 `sqrt_fix(x)`, `x` in `[0, 2^64)`. -/
def sqrtFix (x : Word) : Int :=
  if x = 0 then 0
  else
    let z := sqrtShift x
    let xn : Int := x.toNat * 2 ^ z
    if xn = 2 ^ 62 then 2 ^ (47 - z / 2)
    else asr (xn * newton xn sqrtIters (sqrtStart xn)) (78 + z / 2)

/-- R85 `SQRT`: every operand is legal. -/
def execSqrt (s : State) : Result := .next (completeRes0 (u64 (sqrtFix s.opa)) s)

end Sys2Proof.Machine
end

