-- ==== Sys2Proof/Machine/Multiply.lean ====
section
/-! DEFINITION. The wide multiply commands (spec/41_multiply.md). -/

namespace Sys2Proof.Machine

/-- R65: the 128-bit two's-complement pattern of the exact signed product, `Ps mod 2^128`. -/
def signedProduct (a b : Word) : BitVec 128 := BitVec.ofInt 128 (s64 a * s64 b)

/-- R66 `MULHU`. -/
def execMulhu (s : State) : Result := .next (completeRes0 (highWord (product s.opa s.opb)) s)

/-- R67 `MULHS`. -/
def execMulhs (s : State) : Result := .next (completeRes0 (highWord (signedProduct s.opa s.opb)) s)

/-- R68 `MULU`. -/
def execMulu (s : State) : Result :=
  .next (completeBoth (highWord (product s.opa s.opb)) (lowWord (product s.opa s.opb)) s)

/-- R69 `MULS`. -/
def execMuls (s : State) : Result :=
  .next (completeBoth (highWord (signedProduct s.opa s.opb)) (lowWord (signedProduct s.opa s.opb)) s)

end Sys2Proof.Machine
end

