-- ==== Sys2Proof/Machine/Digit.lean ====
section
/-! DEFINITION. The two digit-counting engines of `POIS` (spec/43_poisson_digit.md R93 to R102). Each loop
iteration of an engine is one step (R32). -/

namespace Sys2Proof.Machine

/-- R91: the count as a result, `zext_32(k mod 2^32)`. -/
def countWord (k : Int) : Word := zext32 (BitVec.ofInt 32 k)

/-- R93: the rate in base-2 digits, `Dg`, UQ32.32. -/
def rateDigits (rate : Int) : Int := asr (rate * log2eQ62) 62

/-- R93: the digit budget `n`. -/
def digitBudget (rate : Int) : Nat := (asr (rateDigits rate) 32).toNat

/-- R93: the starting mantissa `E64`. -/
def startMantissa (p : Params) (rate : Int) : Word :=
  BitVec.ofNat 64 (expFix p (BitVec.ofInt 32 (rateDigits rate)).toNat * 2 ^ 32)

/-- R93 `digits(rate)`, into the working registers of R30. -/
def loadDigits (p : Params) (rate : Int) (w : Work) : Work :=
  { w with n := digitBudget rate, E64 := startMantissa p rate }

/-! ### The scalar regime -/

/-- R94 before the loop: `(n, acc) = digits(rate)`, `B = n`, `k = 0`. -/
def scalarOpen (p : Params) (rate : Int) (w : Work) : Work :=
  let w := loadDigits p rate w
  { w with acc := w.E64, B := w.n, k := 0 }

/-- R94: the product of an iteration, the high word forced odd. -/
def scalarProduct (acc r : Word) : Word := mulhu acc r ||| 1

/-- R94: one multiplication: `acc` normalised again, `B` less the digits consumed. -/
def scalarMultiply (r : Word) (w : Work) : Work :=
  let m := scalarProduct w.acc r
  { w with acc := m <<< clz64 m, B := w.B - clz64 m }

/-- One iteration of the loop of R94. -/
def scalarIter (p : Params) (s : State) : State :=
  let s1 := (draw p s).2
  let s2 := setWork (scalarMultiply (draw p s).1 s1.work) s1
  if s2.work.B < 0 then completeRes0 (countWord s2.work.k) s2
  else setWork { s2.work with k := s2.work.k + 1 } s2

/-! ### The 16-lane regime -/

/-- R97: every lane at the value 1, mantissa 1/2 with −1 digits consumed. -/
def lanesOne : Snapshot := Vector.replicate 16 ⟨0x8000#16, 0xFFFF#16⟩

/-- R98: one lane's multiplication by the uniform `u`, forced odd. -/
def laneStep (l : Lane) (u : BitVec 16) : Lane :=
  let q : BitVec 32 := l.a.setWidth 32 * (u ||| 1#16).setWidth 32
  { a := (q <<< clz32 q).extractLsb' 16 16, d := l.d + BitVec.ofNat 16 (clz32 q) }

/-- R98: all 16 lanes, independently, with four raw draws. -/
def lanesStep (x : Snapshot) (w : Vector Word 4) : Snapshot :=
  Vector.ofFn fun j => laneStep x[j] (laneUniform w j)

/-- R98: the four draws of a batch, in order. -/
def drawFour (p : Params) (s : State) : Vector Word 4 × State :=
  let d0 := draw p s
  let d1 := draw p d0.2
  let d2 := draw p d1.2
  let d3 := draw p d2.2
  (#v[d0.1, d1.1, d2.1, d3.1], d3.2)

/-- R98 `batch_step()`. -/
def batchStep (p : Params) (s : State) : State :=
  let s1 := (drawFour p s).2
  setLanes { s1.lanes with cur := lanesStep s1.lanes.cur (drawFour p s).1 } s1

/-- One multiplication of the fold of R99: the product's high word normalised, its leading zeros counted. -/
def foldStep (f : Word × Nat) (l : Lane) : Word × Nat :=
  let m := mulhu f.1 (l.a.setWidth 64 <<< 48)
  (m <<< clz64 m, f.2 + clz64 m)

/-- R99 `fold`: the sequential product, lane 0 first, from the starting mantissa. -/
def fold (x : Snapshot) (E64 : Word) : Word × Nat := x.toList.foldl foldStep (E64, 0)

/-- R99: the sum of the lanes' digit counts. -/
def laneDigits (x : Snapshot) : Int := (x.toList.map fun l => l.d.toInt).sum

/-- R99: the combined digit count `D` of a lane state. -/
def combinedDigits (x : Snapshot) (E64 : Word) : Int := laneDigits x + (fold x E64).2

/-- R101: the mixed state that takes lanes `0..i` from `cur` and the others from `prev`. -/
def mix (i : Nat) (l : LaneFile) : Snapshot :=
  Vector.ofFn fun j : Fin 16 => if j.val ≤ i then l.cur[j] else l.prev[j]

/-- R101: the first `i` in lane order whose mixed state has crossed the budget. R101 derives that one is
always found after a batch that crossed, because `mix 15` is `cur`. -/
def crossingLane (n : Nat) (E64 : Word) (l : LaneFile) : Nat :=
  ((List.range 16).find? fun i => decide ((n : Int) < combinedDigits (mix i l) E64)).getD 15

/-- R102 before the loop: the digits in the working registers and `k = 0`. -/
def lanesOpen (p : Params) (rate : Int) (w : Work) : Work := { loadDigits p rate w with k := 0 }

/-- One iteration of the loop of R102: the snapshot, the batch, and the batch test of R100. -/
def lanesIter (p : Params) (s : State) : State :=
  let s1 := batchStep p (setLanes { s.lanes with prev := s.lanes.cur } s)
  if combinedDigits s1.lanes.cur s1.work.E64 ≤ s1.work.n then
    setWork { s1.work with k := s1.work.k + 16 } s1
  else
    completeRes0 (countWord (s1.work.k + crossingLane s1.work.n s1.work.E64 s1.lanes)) s1

end Sys2Proof.Machine
end

