-- ==== Sys2Proof/Machine/Ptrs.lean ====
section
/-! DEFINITION. The transformed-rejection engine of `POIS` (spec/44_poisson_ptrs.md R113 to R121), stage by
stage over the working registers of R30. R111: mathematical integers, every floor toward minus infinity.
Each loop iteration is one step (R32). -/

namespace Sys2Proof.Machine

/-- R114 `ln_pos(x) = ln_fix(max(x, 1))`. The argument is a Q32.32 integer below `2^64` (R111). -/
def lnPos (p : Params) (x : Int) : Int := lnFix p (u64 (max x 1))

/-- R113 `ptrs_setup(u)`. -/
def ptrsSetup (p : Params) (u : Int) (w : Work) : Work :=
  let smu := sqrtFix (u64 u)
  let b := p.cB0 + qmul p.cB1 smu
  let vr := p.cVR0 - qdiv p.cVR1 (b - p.cTwo)
  { w with
    smu := smu
    b := b
    a := qmul p.cA1 b - p.cA0
    vr := vr
    invAlpha := p.cIA0 + qdiv p.cIA1 (b - p.cIA2)
    vr86 := qmul p.c086 vr
    lnu := lnFix p (u64 u) }

/-- R115 `ptrs_k(U, us)`: the candidate. -/
def ptrsK (p : Params) (u : Int) (w : Work) : Int :=
  asr (qmul (qdiv (2 * w.a) w.us + w.b) w.U + u + p.c0445) 32

/-- R116: the fast path's `U` and `us`. -/
def ptrsFast (p : Params) (w : Work) : Work :=
  let U := qdiv w.V w.vr - p.c043
  { w with U := U, us := p.cHalf - |U| }

/-- R117: `U` and `V` of the slow path, by the two sub-cases. -/
def ptrsReassign (p : Params) (w : Work) : Work :=
  if w.vr ≤ w.V then { w with U := w.t - p.cHalf }
  else
    let Uo := qdiv w.V w.vr - p.c093
    { w with U := (if 0 ≤ Uo then p.cHalf else -p.cHalf) - Uo, V := qmul w.t w.vr }

/-- R117: the slow path's `us`. -/
def ptrsSlow (p : Params) (w : Work) : Work :=
  let w := ptrsReassign p w
  { w with us := p.cHalf - |w.U| }

/-- R117: the degenerate-region guard; true rejects. -/
def ptrsGuard (p : Params) (w : Work) : Bool :=
  decide (w.us = 0) || (decide (w.us < p.c0013) && decide (w.us < w.V))

/-- R118: `den` and `Vp`. -/
def ptrsRescale (w : Work) : Work :=
  let den := qdiv (qdiv w.a w.us) w.us + w.b
  { w with den := den, Vp := max (qdiv (qmul w.V w.invAlpha) den) 1 }

/-- R119: the left and right sides of the squeeze test. -/
def ptrsSides (p : Params) (u : Int) (w : Work) : Work :=
  { w with
    lhs := lnPos p (qmul w.Vp w.smu)
    rhs0 := qmul (w.k * 2 ^ 32 + p.cHalf) (lnPos p (floorDiv u w.k)) - u - p.cLnSqrt2Pi + w.k * 2 ^ 32 }

/-- R119: the Stirling-series correction term. -/
def ptrsCorr (p : Params) (w : Work) : Work :=
  { w with corr := floorDiv (p.c1_12 - floorDiv (2 ^ 32) (360 * w.k * w.k)) w.k }

/-- R14: the log-factorial table at `k`. DESIGN CHOICE past its ten entries: a free value
(notes/assumptions/20.md). -/
def lnFactAt (p : Params) (k : Nat) : Int := p.lnFact.getD k (Config.lnFactBeyond k)

/-- R120: the two sides of the test for `k < 10`. -/
def ptrsSmallSides (p : Params) (u : Int) (w : Work) : Work :=
  { w with
    lhs := lnPos p w.Vp
    rhs := w.k * w.lnu - u - lnFactAt p w.k.toNat }

/-- R119: the two-stage squeeze test; the registers after it and whether the candidate is accepted. -/
def ptrsSqueeze (p : Params) (u : Int) (w : Work) : Work × Bool :=
  let w := ptrsSides p u w
  if w.lhs < w.rhs0 then
    let w := ptrsCorr p w
    (w, decide (w.lhs < w.rhs0 - w.corr))
  else (w, false)

/-- R120: the test for `k < 10`. -/
def ptrsTable (p : Params) (u : Int) (w : Work) : Work × Bool :=
  let w := ptrsSmallSides p u w
  (w, decide (w.lhs < w.rhs))

/-- R118 after the range check, then R119 or R120. -/
def ptrsDecide (p : Params) (u : Int) (w : Work) : Work × Bool :=
  let w := ptrsRescale w
  if p.kTable ≤ w.k then ptrsSqueeze p u w else ptrsTable p u w

/-- R117 to R120 once `V` and `t` are drawn: the registers after the iteration and whether the candidate
is accepted. -/
def ptrsSlowPath (p : Params) (u : Int) (w : Work) : Work × Bool :=
  let w := ptrsSlow p w
  if ptrsGuard p w then (w, false)
  else
    let w := { w with k := ptrsK p u w }
    if w.k < 0 ∨ 2 ^ 32 - 1 < w.k then (w, false) else ptrsDecide p u w

/-- R116 once `V` is drawn and below `0.86 vr`: the registers with the candidate in `k`. -/
def ptrsFastPath (p : Params) (u : Int) (w : Work) : Work :=
  let w := ptrsFast p w
  { w with k := ptrsK p u w }

/-- R112: a uniform into `V`. -/
def drawV (p : Params) (s : State) : State :=
  setWork { s.work with V := upperHalf (draw p s).1 } (draw p s).2

/-- R112, R117: the second uniform into `t`. -/
def drawT (p : Params) (s : State) : State :=
  setWork { s.work with t := upperHalf (draw p s).1 } (draw p s).2

/-- One iteration of the loop of R121. `u` is `s64(OPA)`, which no command and no taken host write changes
while the command runs (R155). -/
def ptrsIter (p : Params) (s : State) : State :=
  let s1 := drawV p s
  if s1.work.V < s1.work.vr86 then
    let s2 := setWork (ptrsFastPath p (s64 s.opa) s1.work) s1
    completeRes0 (countWord s2.work.k) s2
  else
    let s2 := drawT p s1
    let r := ptrsSlowPath p (s64 s.opa) s2.work
    let s3 := setWork r.1 s2
    if r.2 then completeRes0 (countWord s3.work.k) s3 else s3

end Sys2Proof.Machine
end

