-- ==== Sys2Proof/Machine/Pois.lean ====
section
/-! DEFINITION. `POIS` (spec/43_poisson_digit.md R91): the checks, the dispatch by the rate, and the step of
each regime. -/

namespace Sys2Proof.Machine

/-- R91: the rate, `s64(OPA)`. -/
def rateOf (s : State) : Int := s64 s.opa

/-- R91, the first step of the command: the fault checks in the order of R136, the policy for a rate of
zero or less, and the set-up of the regime the rate selects. DESIGN CHOICE for a build with a `RATE_MAX` below 0:
the check of the ceiling comes first, as in R91's pseudocode, so that a rate of zero or less can fault
(notes/assumptions/23.md). -/
def poisStart (p : Params) (s : State) : State :=
  if s.status.seeded = false then raiseFault .noSeed s
  else if p.rateMax < rateOf s then raiseFault .rateRange s
  else if rateOf s ≤ 0 then completeRes0 (countWord 0) s
  else if rateOf s ≤ p.tSmall then setEngine .scalar (setWork (scalarOpen p (rateOf s) s.work) s)
  else if rateOf s ≤ p.tMed then
    setEngine .lanes (setLanes { s.lanes with cur := lanesOne } (setWork (lanesOpen p (rateOf s) s.work) s))
  else setEngine .ptrs (setWork (ptrsSetup p (rateOf s) s.work) s)

/-- R91 `POIS`, one block step of it, on a block with the parameter record `p`. -/
def poisWith (p : Params) (s : State) : Result :=
  match s.engine with
  | .start => .next (poisStart p s)
  | .scalar => .next (scalarIter p s)
  | .lanes => .next (lanesIter p s)
  | .ptrs => .next (ptrsIter p s)

/-- R91 `POIS`, one block step of it. -/
def execPois (s : State) : Result := poisWith params s

end Sys2Proof.Machine
end

