-- ==== Sys2Proof/Machine/Dispatch.lean ====
section
/-! DEFINITION. One arm per command: the meaning of each. -/

namespace Sys2Proof.Machine

/-- One block step of the command `i` (R60 execute, steps 2 to 4). -/
def exec (i : Instr) (s : State) : Host.Outcome State Fault Refusal :=
  match i with
  | .nop => Sys2Proof.Machine.execNop s
  | .next => Sys2Proof.Machine.execNext s
  | .mulhu => Sys2Proof.Machine.execMulhu s
  | .mulhs => Sys2Proof.Machine.execMulhs s
  | .mulu => Sys2Proof.Machine.execMulu s
  | .muls => Sys2Proof.Machine.execMuls s
  | .exp2 => Sys2Proof.Machine.execExp2 s
  | .log2n => Sys2Proof.Machine.execLog2n s
  | .log2 => Sys2Proof.Machine.execLog2 s
  | .ln => Sys2Proof.Machine.execLn s
  | .sqrt => Sys2Proof.Machine.execSqrt s
  | .pois => Sys2Proof.Machine.execPois s

end Sys2Proof.Machine
end

