-- ==== Sys2Proof/WellFormed.lean ====
section
/-! DEFINITION. Which commands and which host accesses are well formed. -/

namespace Sys2Proof

/-- R50, R54: a command carries no register selector, immediate or mode field, so every term of `Instr` is
well formed. (Ill-formed command WORDS never become a term: the decoder refuses them, R51.) -/
def Instr.wellFormed : Instr → Bool
  | .nop | .next | .mulhu | .mulhs | .mulu | .muls
  | .exp2 | .log2n | .log2 | .ln | .sqrt | .pois => true

/-- The byte offset an access presents. -/
def Access.offset : Access → Nat
  | .read off _ => off
  | .write off _ _ => off

/-- The width of an access in bytes. -/
def Access.width : Access → Nat
  | .read _ width => width
  | .write _ width _ => width

/-- R41: the port moves whole 64-bit words. -/
def Access.wholeWord (a : Access) : Bool := a.width == 8

/-- R41: the offset is a multiple of 8. -/
def Access.aligned (a : Access) : Bool := a.offset % 8 == 0

/-- R41: the offset is in `[0, 0xF8]` (R31: 256 bytes). -/
def Access.inRange (a : Access) : Bool := decide (a.offset ≤ 0xF8)

/-- R41: the accesses that have a meaning. Any other one is refused: it is not a step of the host. -/
def Access.wellFormed (a : Access) : Bool := a.wholeWord && a.aligned && a.inRange

/-- Whether a schedule entry has a meaning. -/
def Event.wellFormed : Event → Bool
  | .access a => a.wellFormed
  | .wait | .block | .reset => true

end Sys2Proof
end

