-- ==== Sys2Proof/Decode.lean ====
section
/-! DEFINITION. The command decoder (spec/30_encoding.md R50 to R53, R55) and, after it, the encoder. -/

namespace Sys2Proof

/-- Why a command word, or a row of bytes, is no command. -/
inductive Reject where
  /-- R51: `w[63:8] ≠ 0`. -/
  | reservedBits
  /-- R51: `w[7:0]` is none of the twelve opcodes of R52. -/
  | unknownOpcode
  /-- R55: the length of a command is always 64 bits; these bytes are not eight. -/
  | notOneWord
  deriving DecidableEq, Repr

/-- R50: the `opcode` field, bits 7:0. -/
def opcodeField (w : Word) : BitVec 8 := w.extractLsb' 0 8

/-- R50: the `rsv` field, bits 63:8. -/
def rsvField (w : Word) : BitVec 56 := w.extractLsb' 8 56

/-- The opcode map of R52, in the table's order. -/
def opcodeMap : List (BitVec 8 × Instr) :=
  [ (0x00#8, .nop), (0x01#8, .next),
    (0x10#8, .mulhu), (0x11#8, .mulhs), (0x12#8, .mulu), (0x13#8, .muls),
    (0x20#8, .exp2), (0x21#8, .log2n), (0x22#8, .log2), (0x23#8, .ln), (0x24#8, .sqrt),
    (0x30#8, .pois) ]

/-- R51: decoding depends on the command word alone. -/
def decode (w : Word) : Except Reject Instr :=
  if rsvField w ≠ 0 then .error .reservedBits
  else
    match opcodeMap.lookup (opcodeField w) with
    | some i => .ok i
    | none => .error .unknownOpcode

/-- R42: the word a bridge assembles from eight bytes, the byte at the lowest address in bits 7:0. -/
def wordOfBytes (b : List Byte) : Word :=
  BitVec.ofNat 64 (b.foldr (fun x acc => x.toNat + 256 * acc) 0)

/-- The decoder on bytes as a bridge would carry them (R42); anything but eight bytes is refused (R55). -/
def decodeBytes (b : List Byte) : Except Reject Instr :=
  if b.length = 8 then decode (wordOfBytes b) else .error .notOneWord

/-- The instruction the decoder reads from an instruction whose low `nbits` bits are those of `w` and whose
other bits are 0. No command is longer than one word (R55). -/
def decodeTableWord (nbits w : Nat) : Option Instr :=
  if nbits ≤ 64 then (decode (BitVec.ofNat 64 (w % 2 ^ nbits))).toOption else none

/-- R52: the whole 64-bit command word of each command (the table's `match`). -/
def encode : Instr → Word
  | .nop   => 0x0000000000000000#64
  | .next  => 0x0000000000000001#64
  | .mulhu => 0x0000000000000010#64
  | .mulhs => 0x0000000000000011#64
  | .mulu  => 0x0000000000000012#64
  | .muls  => 0x0000000000000013#64
  | .exp2  => 0x0000000000000020#64
  | .log2n => 0x0000000000000021#64
  | .log2  => 0x0000000000000022#64
  | .ln    => 0x0000000000000023#64
  | .sqrt  => 0x0000000000000024#64
  | .pois  => 0x0000000000000030#64

end Sys2Proof
end

