-- ==== Sys2Proof/Machine/Port.lean ====
section
/-! DEFINITION. What a host access sees and does (spec/20_memory.md R40 to R46), the reset input
(spec/70_reset_and_hazards.md R150), and placing a command word where the next block step takes it. -/

namespace Sys2Proof.Machine

/-- The value a register holds (R40, R43); `ID` is the constant of R27. -/
def regValue (r : Reg) (s : State) : Word :=
  match r with
  | .id => 0x0000000152565043#64
  | .cmd => s.cmd
  | .status => statusWord s.status
  | .cause => causeWord s.cause
  | .opa => s.opa
  | .opb => s.opb
  | .res0 => s.res0
  | .res1 => s.res1
  | .stream => s.stream

/-- R43: the three registers whose value a read does not show while `BUSY = 1`. -/
def hiddenWhileBusy (r : Reg) : Bool :=
  match r with
  | .res0 | .res1 | .stream => true
  | .id | .cmd | .status | .cause | .opa | .opb => false

/-- R43: whether a read of the offset returns `UNSPECIFIED` in this state. -/
def readsUnspecified (off : Nat) (s : State) : Bool :=
  match regAt off with
  | some r => hiddenWhileBusy r && s.status.busy
  | none => false

/-- R40, R43: the value a read of the offset returns; a reserved offset reads 0. -/
def readValue (off : Nat) (s : State) : Word :=
  if readsUnspecified off s then Config.unspecified s.env.freeCount
  else
    match regAt off with
    | some r => regValue r s
    | none => 0

/-- R43 `MemRead(off, 8)`: no side effect on the block; the host is told the value, and a value of
`UNSPECIFIED` is used up. -/
def hostRead (off : Nat) (s : State) : State :=
  setEnv
    { s.env with
      readLog := readValue off s :: s.env.readLog
      freeCount := if readsUnspecified off s then s.env.freeCount + 1 else s.env.freeCount } s

/-- R44: a write that is dropped changes nothing but `OVR`. -/
def dropWrite (s : State) : State := setStatus (flagsOverrun s.status) s

/-- R44: a host write to `STATUS`, taken at any time. -/
def writeStatus (v : Word) (s : State) : State :=
  setCause (causeWritten v s.cause) (setStatus (flagsWritten v s.status) s)

/-- R44: a host write to `STREAM`. -/
def writeStream (v : Word) (s : State) : State :=
  if s.status.busy then dropWrite s else setStatus (flagsSeeded s.status) (setStream v s)

/-- R44: a host write to `CMD`: dropped while busy or faulted, else the issue of a command (R60). -/
def writeCmd (v : Word) (s : State) : State :=
  if s.status.busy || s.status.err then dropWrite s else issue v s

/-- R44 `MemWrite(off, 8, v)`; read-only registers and reserved offsets ignore a write (R40). -/
def hostWrite (off : Nat) (v : Word) (s : State) : State :=
  match regAt off with
  | some .status => writeStatus v s
  | some .opa => if s.status.busy then dropWrite s else setOpa v s
  | some .opb => if s.status.busy then dropWrite s else setOpb v s
  | some .stream => writeStream v s
  | some .cmd => writeCmd v s
  | some .id | some .cause | some .res0 | some .res1 | none => s

/-- R46: one access, served. -/
def serveAccess (a : Access) (s : State) : State :=
  match a with
  | .read off _ => hostRead off s
  | .write off _ v => hostWrite off v s

/-- R150, R151: the reset input asserted and released: everything at its reset value. The schedule and the
log are the model's own and stay. -/
def hardReset (s : State) : State := setEnv s.env State.reset

/-- The command word of a table row: its low `nbits` bits, the others 0. -/
def tableWord (nbits w : Nat) : Word := BitVec.ofNat 64 (w % 2 ^ nbits)

/-- Let the block move next. -/
def blockNext (s : State) : State :=
  match s.env.agenda with
  | [] => s
  | l => setAgenda (.block :: l) s

/-- The state in which the word has just been accepted as a command and the block moves next. R44 accepts
a `CMD` write only while `ERR = 0`, so an outstanding fault is cleared first. -/
def placeCommand (w : Word) (s : State) : State := blockNext (issue w (clearFault s))

end Sys2Proof.Machine
end

