-- ==== Sys2Proof/Machine/Turn.lean ====
section
/-! DEFINITION. Who moves: the block's own step (spec/40_control_stream.md R60) and the service of one schedule
entry (spec/20_memory.md R46, spec/30_encoding.md R56). -/

namespace Sys2Proof.Machine

/-- One step of the block (R60): while `BUSY = 1` it decodes `CMD` and runs the command, or takes the fault
`ILLEGAL_CMD` (R51, R132); while `BUSY = 0` it does nothing. -/
def blockTurn (s : State) : Host.Outcome State Fault Refusal :=
  if s.status.busy then
    match decode s.cmd with
    | .ok i => exec i s
    | .error _ => .next (raiseFault .illegalCmd s)
  else .next s

/-- R56 `wait`, one poll: read `STATUS`; if the value read has `BUSY = 1`, the block moves and the host
polls again. `rest` is the schedule after the directive. -/
def pollStatus (rest : List Event) (s : State) : Host.Outcome State Fault Refusal :=
  if s.status.busy then blockTurn (setAgenda (.wait :: rest) (hostRead (regOffset .status) s))
  else .next (setAgenda rest (hostRead (regOffset .status) s))

/-- One schedule entry, taken off the schedule and served (R46). -/
def serve (e : Event) (rest : List Event) (s : State) : Host.Outcome State Fault Refusal :=
  match e with
  | .access a => if a.wellFormed then .next (serveAccess a (setAgenda rest s)) else .refused (.notAnAccess a)
  | .wait => pollStatus rest s
  | .block => blockTurn (setAgenda rest s)
  | .reset => .next (hardReset (setAgenda rest s))

end Sys2Proof.Machine
end

