-- ==== Sys2Proof/Machine/Step.lean ====
section
/-! DEFINITION. One step of the machine: the next entry of the schedule, or the block's own move. -/

namespace Sys2Proof.Machine

/-- One step of the machine. With nothing left on the schedule the host makes no access and the block moves
(R158: it takes steps while `BUSY = 1`). -/
def step (s : State) : Host.Outcome State Fault Refusal :=
  match s.env.agenda with
  | [] => blockTurn s
  | e :: rest => serve e rest s

/-- The state with the command word of a table row accepted and the block to move next, so that the very
next step runs that command. There is no fetch (R23, R48): the word is taken from `CMD`. -/
def State.withFetchWord (s : State) (nbits w : Nat) : State := placeCommand (tableWord nbits w) s

end Sys2Proof.Machine
end

