-- ==== Sys2Proof/Machine/Script.lean ====
section
/-! DEFINITION. The host-script syntax and macros of the spec (spec/30_encoding.md R56, R57), each line as the
schedule entry it stands for. -/

namespace Sys2Proof.Machine

/-- R56 `wr REG, value`. -/
def wr (r : Reg) (v : Word) : Event := .access (.write (regOffset r) 8 v)

/-- R56 `rd REG`. -/
def rd (r : Reg) : Event := .access (.read (regOffset r) 8)

/-- R56 `cmd MNEMONIC`. -/
def cmd (i : Instr) : Event := wr .cmd (encode i)

/-- R57 `seed s`. -/
def scriptSeed (v : Word) : List Event := [wr .stream v]

/-- R57 `next_raw`. -/
def scriptNextRaw : List Event := [cmd .next, .wait, rd .res0]

/-- R57 `mulhi x, y`. -/
def scriptMulhi (x y : Word) : List Event := [wr .opa x, wr .opb y, cmd .mulhu, .wait, rd .res0]

/-- R57 `mulhi_lo x, y`. -/
def scriptMulhiLo (x y : Word) : List Event :=
  [wr .opa x, wr .opb y, cmd .mulu, .wait, rd .res0, rd .res1]

/-- R57 `fn1 MNEMONIC, x`. -/
def scriptFn1 (i : Instr) (x : Word) : List Event := [wr .opa x, cmd i, .wait, rd .res0]

/-- R57 `poisson r`. -/
def scriptPoisson (r : Word) : List Event := [wr .opa r, cmd .pois, .wait, rd .res0]

/-- R57 `clrerr`. -/
def scriptClrErr : List Event := [wr .status 0x4#64]

/-- The state with a host script to be played. -/
def loadScript (l : List Event) (s : State) : State := setAgenda l s

end Sys2Proof.Machine
end

