-- ==== Sys2Proof/Machine/Whole.lean ====
section
/-! DEFINITION. The engines of `POIS` as the spec writes them, one function over a whole command
(spec/43_poisson_digit.md R94, R102, spec/44_poisson_ptrs.md R121). The machine runs one iteration a step; these
functions run the loop. `fuel` bounds the number of iterations, because an engine may never stop (R103,
R124): `none` says that it is still looping. -/

namespace Sys2Proof.Machine

/-- The loop of R94: `acc`, `B`, `k` and the stream; the count and the final stream. -/
def scalarLoop (p : Params) : Nat → Word → Int → Int → Word → Option (Int × Word)
  | 0, _, _, _, _ => none
  | fuel + 1, acc, B, k, st =>
    let r := (nextRaw p st).1
    let m := scalarProduct acc r
    if B - clz64 m < 0 then some (k, (nextRaw p st).2)
    else scalarLoop p fuel (m <<< clz64 m) (B - clz64 m) (k + 1) (nextRaw p st).2

/-- R94 `pois_scalar(rate)`. -/
def poisScalar (p : Params) (fuel : Nat) (rate : Int) (st : Word) : Option (Int × Word) :=
  scalarLoop p fuel (startMantissa p rate) (digitBudget rate) 0 st

/-- The stream after `j` draws (R64 (a)). -/
def streamAfter (p : Params) (st : Word) : Nat → Word
  | 0 => st
  | j + 1 => streamAfter p (nextRaw p st).2 j

/-- R98: the four words of a batch. -/
def batchWords (p : Params) (st : Word) : Vector Word 4 :=
  #v[(nextRaw p st).1, (nextRaw p (streamAfter p st 1)).1,
     (nextRaw p (streamAfter p st 2)).1, (nextRaw p (streamAfter p st 3)).1]

/-- The loop of R102: the digit budget, the starting mantissa, the lanes, the count and the stream. -/
def lanesLoop (p : Params) (n : Nat) (E64 : Word) : Nat → Snapshot → Int → Word → Option (Int × Word)
  | 0, _, _, _ => none
  | fuel + 1, cur, k, st =>
    let new := lanesStep cur (batchWords p st)
    if combinedDigits new E64 ≤ n then lanesLoop p n E64 fuel new (k + 16) (streamAfter p st 4)
    else some (k + crossingLane n E64 { cur := new, prev := cur }, streamAfter p st 4)

/-- R102 `pois_vector(rate)`. -/
def poisVector (p : Params) (fuel : Nat) (rate : Int) (st : Word) : Option (Int × Word) :=
  lanesLoop p (digitBudget rate) (startMantissa p rate) fuel lanesOne 0 st

/-- The loop of R121 on the set-up registers `w`. -/
def ptrsLoop (p : Params) (u : Int) (w : Work) : Nat → Word → Option (Int × Word)
  | 0, _ => none
  | fuel + 1, st =>
    let w1 := { w with V := upperHalf (nextRaw p st).1 }
    if w1.V < w1.vr86 then some ((ptrsFastPath p u w1).k, streamAfter p st 1)
    else
      let r := ptrsSlowPath p u { w1 with t := upperHalf (nextRaw p (streamAfter p st 1)).1 }
      if r.2 then some (r.1.k, streamAfter p st 2) else ptrsLoop p u w fuel (streamAfter p st 2)

/-- R121 `pois_ptrs(u)`. The registers that the set-up does not write hold 0 here. -/
def poisPtrs (p : Params) (fuel : Nat) (u : Int) (st : Word) : Option (Int × Word) :=
  ptrsLoop p u (ptrsSetup p u Work.reset) fuel st

/-- R91: the count and the final stream of one `POIS` command that raises no fault. -/
def poisFunction (p : Params) (fuel : Nat) (rate : Int) (st : Word) : Option (Int × Word) :=
  if rate ≤ 0 then some (0, st)
  else if rate ≤ p.tSmall then poisScalar p fuel rate st
  else if rate ≤ p.tMed then poisVector p fuel rate st
  else poisPtrs p fuel rate st

end Sys2Proof.Machine
end

