-- ==== Sys2Proof/Safety.lean ====
section
/-! DEFINITION. The terms in which statements about the machine are made: runs, the invariant every step keeps,
and what of a state a command's result may depend on. -/

namespace Sys2Proof.Machine

/-- `k` steps of the machine behind the host's interface. -/
def runs (k : Nat) (s : State) : Host.Outcome State Fault Refusal := Host.Core.run Sys2Proof.core k s

/-! ### What a command answers -/

/-- The two states agree in every field but the sampler's position, whose form is the model's own
(notes/assumptions/6.md). -/
def SameButPosition (t u : State) : Prop := t = { u with engine := t.engine }

/-- The answer is a next state, and that state is `u` but for the sampler's position. (Where a position is
left after a command is part of `Coherent`: an idle block has no loop open.) -/
def AnswersAs (r : Host.Outcome State Fault Refusal) (u : State) : Prop :=
  ∃ t, r = .next t ∧ SameButPosition t u

/-! ### The invariant -/

/-- R24: at most one of `BUSY`, `DONE`, `ERR` is 1. -/
abbrev flagsExclusive (f : Status) : Prop :=
  ¬ (f.busy = true ∧ f.done = true) ∧ ¬ (f.busy = true ∧ f.err = true) ∧ ¬ (f.done = true ∧ f.err = true)

/-- R25: `CAUSE` is 0 exactly when `ERR` is 0. -/
abbrev causeMatches (s : State) : Prop := s.cause = .noFault ↔ s.status.err = false

/-- R97 to R102: what holds of the lanes at the top of the loop: every mantissa has bit 15 set (R29), every
digit count is at least −1, and the counts together are within the digit budget. -/
abbrev lanesHeld (n : Nat) (x : Snapshot) : Prop :=
  (∀ j : Fin 16, x[j].a.getLsbD 15 = true) ∧ (∀ j : Fin 16, -1 ≤ x[j].d.toInt) ∧ laneDigits x ≤ n

/-- The digits of the rate are in their registers (R93). -/
abbrev digitsHeld (s : State) : Prop := loadDigits params (rateOf s) s.work = s.work

/-- What holds while the scalar loop of R94 is open. -/
abbrev scalarOpenOk (s : State) : Prop :=
  0 < rateOf s ∧ rateOf s ≤ params.tSmall ∧ digitsHeld s ∧ s.work.acc.getLsbD 63 = true
    ∧ 0 ≤ s.work.B ∧ s.work.B ≤ s.work.n ∧ 0 ≤ s.work.k

/-- What holds while the loop of R102 is open. -/
abbrev lanesOpenOk (s : State) : Prop :=
  params.tSmall < rateOf s ∧ rateOf s ≤ params.tMed ∧ digitsHeld s ∧ lanesHeld s.work.n s.lanes.cur
    ∧ 0 ≤ s.work.k ∧ s.work.k % 16 = 0

/-- What holds while the loop of R121 is open: the set-up registers are those of the rate (R113). -/
abbrev ptrsOpenOk (s : State) : Prop :=
  params.tMed < rateOf s ∧ ptrsSetup params (rateOf s) s.work = s.work

/-- A sampler loop is open only while a `POIS` command runs on a seeded block, and its registers are as the
loop of its regime left them. -/
abbrev engineOk (s : State) : Prop :=
  match s.engine with
  | .start => True
  | .scalar => s.status.busy = true ∧ s.cmd = encode .pois ∧ s.status.seeded = true ∧ scalarOpenOk s
  | .lanes => s.status.busy = true ∧ s.cmd = encode .pois ∧ s.status.seeded = true ∧ lanesOpenOk s
  | .ptrs => s.status.busy = true ∧ s.cmd = encode .pois ∧ s.status.seeded = true ∧ ptrsOpenOk s

/-- The invariant of the machine. -/
def Coherent (s : State) : Prop := flagsExclusive s.status ∧ causeMatches s ∧ engineOk s

/-! ### What a result may depend on -/

/-- R30, R160: the working registers and lanes that the engine reads before it writes them, at each
position of the sampler. -/
abbrev liveAgree (s t : State) : Prop :=
  match s.engine with
  | .start => True
  | .scalar => s.work.acc = t.work.acc ∧ s.work.B = t.work.B ∧ s.work.k = t.work.k
  | .lanes => s.work.n = t.work.n ∧ s.work.E64 = t.work.E64 ∧ s.work.k = t.work.k
      ∧ s.lanes.cur = t.lanes.cur
  | .ptrs => s.work.smu = t.work.smu ∧ s.work.b = t.work.b ∧ s.work.a = t.work.a ∧ s.work.vr = t.work.vr
      ∧ s.work.invAlpha = t.work.invAlpha ∧ s.work.vr86 = t.work.vr86 ∧ s.work.lnu = t.work.lnu

/-- Two states that differ at most in lane file and working registers that the block will write before it
reads them. -/
def Alike (s t : State) : Prop :=
  s.cmd = t.cmd ∧ s.status = t.status ∧ s.cause = t.cause ∧ s.opa = t.opa ∧ s.opb = t.opb
    ∧ s.res0 = t.res0 ∧ s.res1 = t.res1 ∧ s.stream = t.stream ∧ s.engine = t.engine ∧ s.env = t.env
    ∧ liveAgree s t

/-- Two outcomes that no host can tell apart: alike next states, or the same refusal. -/
def AlikeOutcome : Host.Outcome State Fault Refusal → Host.Outcome State Fault Refusal → Prop
  | .next s, .next t => Alike s t
  | .refused r, .refused q => r = q
  | .fault r, .fault q => r = q
  | .next _, .refused _ | .next _, .fault _ | .refused _, .next _ | .refused _, .fault _
  | .fault _, .next _ | .fault _, .refused _ => False

end Sys2Proof.Machine
end

