-- ==== Sys2Proof/Certificates/Slice0/Obligations.lean ====
section
/-! DEFINITION. The statements for the provers. Each one's docstring says which rule of spec/ it formalises.
A next state is written as a record update of the state before, so that every field not named in it is
unchanged: that is the frame. `AnswersAs` and `SameButPosition` compare everything but the sampler's position
`engine`, whose form is the model's own (notes/assumptions/6.md). -/

open Sys2Proof Sys2Proof.Machine

/-! ### Encoding -/

/-- R52: the twelve command words, all 64 bits decoded: each command has exactly one word. -/
def Obligations.OpcodeMapIsExact : Prop :=
  ∀ w : Word,
    (decode w = .ok .nop ↔ w = 0x0000000000000000#64) ∧ (decode w = .ok .next ↔ w = 0x0000000000000001#64)
    ∧ (decode w = .ok .mulhu ↔ w = 0x0000000000000010#64) ∧ (decode w = .ok .mulhs ↔ w = 0x0000000000000011#64)
    ∧ (decode w = .ok .mulu ↔ w = 0x0000000000000012#64) ∧ (decode w = .ok .muls ↔ w = 0x0000000000000013#64)
    ∧ (decode w = .ok .exp2 ↔ w = 0x0000000000000020#64) ∧ (decode w = .ok .log2n ↔ w = 0x0000000000000021#64)
    ∧ (decode w = .ok .log2 ↔ w = 0x0000000000000022#64) ∧ (decode w = .ok .ln ↔ w = 0x0000000000000023#64)
    ∧ (decode w = .ok .sqrt ↔ w = 0x0000000000000024#64) ∧ (decode w = .ok .pois ↔ w = 0x0000000000000030#64)

/-- Decoder and encoder agree, both ways: every command's word decodes to it, and a word that decodes to a
command is that command's word. -/
def Obligations.DecodeAndEncodeAgree : Prop :=
  (∀ i : Instr, i.wellFormed = true → decode (encode i) = .ok i)
  ∧ (∀ (w : Word) (i : Instr), decode w = .ok i → encode i = w)

/-- R51: the decoder rejects a word for its reserved bits, whatever its opcode, or else for its opcode. -/
def Obligations.RejectsByReservedBitsThenOpcode : Prop :=
  ∀ w : Word,
    (decode w = .error .reservedBits ↔ 256 ≤ w.toNat)
    ∧ (decode w = .error .unknownOpcode ↔
        w.toNat < 256 ∧ w.toNat ∉
          [0x00, 0x01, 0x10, 0x11, 0x12, 0x13, 0x20, 0x21, 0x22, 0x23, 0x24, 0x30])

/-- A few words written out from R50 and R52. -/
def Obligations.SampleWordsDecode : Prop :=
  decode 0x0000000000000001#64 = .ok .next ∧ decode 0x0000000000000013#64 = .ok .muls
    ∧ decode 0x0000000000000023#64 = .ok .ln ∧ decode 0x0000000000000030#64 = .ok .pois
    ∧ decode 0x0000000000000099#64 = .error .unknownOpcode
    ∧ decode 0x8000000000000001#64 = .error .reservedBits
    ∧ decodeTableWord 64 0x24 = some .sqrt

/-- R42: through a byte-addressed bridge, byte `i` of a register carries bits `8i+7 : 8i`; eight such bytes
make the word again, and decode as it does. -/
def Obligations.BridgeBytesAreLittleEndian : Prop :=
  ∀ w : Word,
    (∀ i j : Nat, i < 8 → j < 8 → (bridgeByte w i).getLsbD j = w.getLsbD (8 * i + j))
    ∧ wordOfBytes ((List.range 8).map (bridgeByte w)) = w
    ∧ decodeBytes ((List.range 8).map (bridgeByte w)) = decode w

/-! ### Steps -/

/-- R60: while `BUSY = 1`, a step in which the block moves runs the command in `CMD`. The block moves when
nothing is on the schedule, when the schedule says so, and after a poll of `wait`.
The schedule and the rhythm of `wait` are the model's own: notes/assumptions/3.md, 7.md. -/
def Obligations.BlockStepRunsDecodedCommand : Prop :=
  ∀ (s : State) (i : Instr), i.wellFormed = true → s.status.busy = true → decode s.cmd = .ok i →
    (s.env.agenda = [] → step s = exec i s)
    ∧ (∀ rest, s.env.agenda = .block :: rest → step s = exec i (setAgenda rest s))
    ∧ (∀ rest, s.env.agenda = .wait :: rest →
        step s = exec i { s with env := { s.env with
          agenda := .wait :: rest,
          readLog := statusWord s.status :: s.env.readLog } })

/-- A table row's word placed in a state runs as the very next step.
The placement is the model's own: notes/assumptions/8.md, and the sampler's position 6.md. -/
def Obligations.PlacedWordRunsNext : Prop :=
  ∀ (s : State) (i : Instr),
    step (s.withFetchWord 64 (encode i).toNat) =
      exec i { s with
        cmd := encode i, cause := .noFault, engine := .start,
        status := { s.status with busy := true, done := false, err := false } }

/-- R60: the block does nothing when `BUSY = 0`.
The schedule and the idle step are the model's own: notes/assumptions/3.md, 15.md. -/
def Obligations.IdleBlockDoesNothing : Prop :=
  ∀ s : State, s.status.busy = false →
    (s.env.agenda = [] → step s = .next s)
    ∧ (∀ rest, s.env.agenda = .block :: rest → step s = .next (setAgenda rest s))

/-- R132: an accepted word that is none of the twelve is stored in `CMD`, sets `BUSY`, and at the block's
next step faults with cause 1, clearing `BUSY`; nothing else is read or written.
The schedule and the sampler's position are the model's own: notes/assumptions/3.md, 6.md. -/
def Obligations.IllegalWordFaults : Prop :=
  ∀ (s : State) (w : Word),
    256 ≤ w.toNat ∨ w.toNat % 256 ∉
      [0x00, 0x01, 0x10, 0x11, 0x12, 0x13, 0x20, 0x21, 0x22, 0x23, 0x24, 0x30] →
    s.status.busy = false → s.status.err = false → s.env.agenda = [.access (.write 0x08 8 w)] →
    runs 1 s = .next { s with
        cmd := w, engine := .start,
        status := { s.status with busy := true, done := false },
        env := { s.env with agenda := [] } }
    ∧ runs 2 s = .next { s with
        cmd := w, engine := .start, cause := .illegalCmd,
        status := { s.status with busy := false, done := false, err := true },
        env := { s.env with agenda := [] } }
    ∧ causeWord .illegalCmd = 1

/-! ### The port -/

/-- R44, the whole table of host writes; and which writes are idempotent. -/
def Obligations.HostWritesFollowTheirTable : Prop :=
  (∀ (s : State) (off : Nat) (v : Word), off % 8 = 0 → off ≤ 0xF8 →
    SameButPosition (serveAccess (.write off 8 v) s)
      (let dropped := { s with status := { s.status with ovr := true } }
       if off = 0x10 then
         { s with
           status := { s.status with
             err := if v.getLsbD 2 then false else s.status.err
             ovr := if v.getLsbD 4 then false else s.status.ovr }
           cause := if v.getLsbD 2 then .noFault else s.cause }
       else if off = 0x20 then (if s.status.busy then dropped else { s with opa := v })
       else if off = 0x28 then (if s.status.busy then dropped else { s with opb := v })
       else if off = 0x40 then
         (if s.status.busy then dropped
          else { s with stream := v, status := { s.status with seeded := true } })
       else if off = 0x08 then
         (if s.status.busy = true ∨ s.status.err = true then dropped
          else { s with cmd := v, status := { s.status with done := false, busy := true } })
       else s))
  ∧ (∀ (s : State) (v : Word), ∀ off ∈ [0x10, 0x20, 0x28, 0x40],
      serveAccess (.write off 8 v) (serveAccess (.write off 8 v) s) = serveAccess (.write off 8 v) s)
  ∧ (∃ (s : State) (v : Word),
      serveAccess (.write 0x08 8 v) (serveAccess (.write 0x08 8 v) s) ≠ serveAccess (.write 0x08 8 v) s)

/-- R43, R40: what a host read is told, at every offset, and that it changes nothing but what the host was
told. While `BUSY = 1` the value of `RES0`, `RES1` and `STREAM` is the free value (notes/assumptions/1.md). -/
def Obligations.HostReadsFollowTheirTable : Prop :=
  ∀ (s : State) (off : Nat), off % 8 = 0 → off ≤ 0xF8 →
    let hidden := s.status.busy = true ∧ (off = 0x30 ∨ off = 0x38 ∨ off = 0x40)
    let free := Config.unspecified s.env.freeCount
    serveAccess (.read off 8) s = { s with
      env :=
      { agenda := s.env.agenda
        readLog :=
          (if off = 0x00 then 0x0000000152565043#64
           else if off = 0x08 then s.cmd
           else if off = 0x10 then statusWord s.status
           else if off = 0x18 then causeWord s.cause
           else if off = 0x20 then s.opa
           else if off = 0x28 then s.opb
           else if off = 0x30 then (if s.status.busy then free else s.res0)
           else if off = 0x38 then (if s.status.busy then free else s.res1)
           else if off = 0x40 then (if s.status.busy then free else s.stream)
           else 0#64) :: s.env.readLog
        freeCount := if hidden then s.env.freeCount + 1 else s.env.freeCount } }

/-- R24, R25, R131: the bits of `STATUS` and the codes of `CAUSE`. -/
def Obligations.StatusAndCauseBits : Prop :=
  (∀ (f : Status) (i : Nat),
    (statusWord f).getLsbD i =
      (if i = 0 then f.busy else if i = 1 then f.done else if i = 2 then f.err
       else if i = 3 then f.seeded else if i = 4 then f.ovr else false))
  ∧ causeWord .noFault = 0 ∧ causeWord .illegalCmd = 1 ∧ causeWord .noSeed = 2
  ∧ causeWord .domain = 3 ∧ causeWord .rateRange = 4

/-- R46, R41, R150: what the next schedule entry does. An access of 8 bytes at a multiple of 8 up to 0xF8 is
served; any other access is refused; a reset puts everything at its reset value. (The schedule is the model's
own, notes/assumptions/3.md.) -/
def Obligations.ScheduleEntriesAreServed : Prop :=
  ∀ (s : State) (rest : List Event),
    (∀ a : Access, s.env.agenda = .access a :: rest →
      (a.width = 8 ∧ a.offset % 8 = 0 ∧ a.offset ≤ 0xF8 → step s = .next (serveAccess a (setAgenda rest s)))
      ∧ (a.width ≠ 8 ∨ a.offset % 8 ≠ 0 ∨ 0xF8 < a.offset → step s = .refused (.notAnAccess a)))
    ∧ (s.env.agenda = .reset :: rest → step s = .next (hardReset (setAgenda rest s)))

/-- R155: while a command runs, no access changes an operand, a result, the stream, the command or anything
the samplers work on; a write of an operand, of the stream or of a command is dropped and sets `OVR`.
The sampler's position is the model's own: notes/assumptions/6.md. -/
def Obligations.RunningCommandIsUndisturbed : Prop :=
  ∀ (s : State) (a : Access), s.status.busy = true → a.wellFormed = true →
    let t := serveAccess a s
    t.cmd = s.cmd ∧ t.opa = s.opa ∧ t.opb = s.opb ∧ t.res0 = s.res0 ∧ t.res1 = s.res1
    ∧ t.stream = s.stream ∧ t.lanes = s.lanes ∧ t.work = s.work ∧ t.engine = s.engine
    ∧ t.status.busy = true ∧ t.status.done = s.status.done ∧ t.status.seeded = s.status.seeded
    ∧ (∀ off v, a = .write off 8 v → off ∈ [0x08, 0x20, 0x28, 0x40] →
        t = { s with status := { s.status with ovr := true } })

/-- R155, R160: what a block step computes is the same whether or not the host made an access just before
it; only `OVR`, a cleared fault and what the host was told can differ.
Where between block steps an access falls, and the sampler's position, are the model's own: notes/assumptions/5.md, 6.md. -/
def Obligations.PollingDoesNotChangeTheCommand : Prop :=
  ∀ (s : State) (a : Access), Coherent s → s.status.busy = true → a.wellFormed = true →
    ∃ t u, blockTurn s = .next t ∧ blockTurn (serveAccess a s) = .next u
      ∧ u.cmd = t.cmd ∧ u.opa = t.opa ∧ u.opb = t.opb ∧ u.res0 = t.res0 ∧ u.res1 = t.res1
      ∧ u.stream = t.stream ∧ u.lanes = t.lanes ∧ u.work = t.work ∧ u.engine = t.engine
      ∧ u.cause = t.cause ∧ u.status.busy = t.status.busy ∧ u.status.done = t.status.done
      ∧ u.status.err = t.status.err ∧ u.status.seeded = t.status.seeded

/-- R33: after reset, from any state, every register holds and reads its reset value, the seed is gone, so
that the commands that draw fault, and the block, idle, does nothing. (The lane file and the working registers
are unspecified there, and nothing is said of them.) That the schedule, the log and the count of free values
stay is the model's choice, notes/assumptions/14.md, and that the idle block answers the same state 15.md. -/
def Obligations.ResetRestoresEveryRegister : Prop :=
  ∀ s : State,
    let t := hardReset s
    t.cmd = 0 ∧ t.cause = .noFault ∧ t.opa = 0 ∧ t.opb = 0 ∧ t.res0 = 0 ∧ t.res1 = 0 ∧ t.stream = 0
    ∧ t.status = ⟨false, false, false, false, false⟩
    ∧ readValue 0x00 t = 0x0000000152565043#64
    ∧ (∀ off ∈ [0x08, 0x10, 0x18, 0x20, 0x28, 0x30, 0x38, 0x40], readValue off t = 0)
    ∧ (∀ i ∈ [Instr.next, Instr.pois], AnswersAs (exec i t) { t with
        cause := .noSeed, status := { t.status with err := true } })
    ∧ blockTurn t = .next t ∧ t.env = s.env

/-- R33: the state after reset reads, at every offset a host can read, 0 but for `ID`. -/
def Obligations.ResetStateReads : Prop :=
  readValue 0x00 State.reset = 0x0000000152565043#64
    ∧ ∀ i : Fin 31, readValue (8 * (i.val + 1)) State.reset = 0

/-! ### The life of a command -/

/-- R138, R139: while `ERR = 1` a command write is dropped and sets `OVR`, and writes of the operands and of
the stream are taken; a write of `STATUS` with bit 2 set (and bit 4 clear) clears `ERR` and `CAUSE` and nothing
else, and then a command is accepted. -/
def Obligations.FaultBlocksCommandsUntilCleared : Prop :=
  ∀ (s : State) (w v : Word), s.status.err = true → s.status.busy = false →
    hostWrite 0x08 w s = { s with status := { s.status with ovr := true } }
    ∧ hostWrite 0x20 v s = { s with opa := v } ∧ hostWrite 0x28 v s = { s with opb := v }
    ∧ hostWrite 0x40 v s = { s with stream := v, status := { s.status with seeded := true } }
    ∧ (v.getLsbD 2 = true → v.getLsbD 4 = false →
        hostWrite 0x10 v s = { s with cause := .noFault, status := { s.status with err := false } }
        ∧ SameButPosition (hostWrite 0x08 w (hostWrite 0x10 v s))
          { s with
            cmd := w, cause := .noFault,
            status := { s.status with err := false, done := false, busy := true } })

/-- R21, R22, R26: no command writes `OPA`, `OPB` or `CMD`, sets or clears `SEEDED` or `OVR`; only `MULU` and
`MULS` write `RES1`, and only `NEXT` and `POIS` write `STREAM`. -/
def Obligations.CommandsWriteOnlyTheirResults : Prop :=
  ∀ (i : Instr) (s t : State), exec i s = .next t →
    t.cmd = s.cmd ∧ t.opa = s.opa ∧ t.opb = s.opb ∧ t.env = s.env
    ∧ t.status.seeded = s.status.seeded ∧ t.status.ovr = s.status.ovr
    ∧ (i ≠ .mulu → i ≠ .muls → t.res1 = s.res1)
    ∧ (i ≠ .next → i ≠ .pois → t.stream = s.stream)
    ∧ (i ≠ .pois → t.lanes = s.lanes ∧ t.work = s.work)
    ∧ (i = .nop → t.res0 = s.res0)

/-- R135, whichever fault it is, that of an illegal word included: the block step that sets `ERR` has written
`CAUSE`, `ERR`, `BUSY` and `DONE` and nothing else: no result, no operand, no stream state, no lane. -/
def Obligations.FaultsArePrecise : Prop :=
  ∀ (s t : State), blockTurn s = .next t → s.status.err = false → t.status.err = true →
    ∃ c, c ≠ .noFault ∧ SameButPosition t { s with
      cause := c, status := { s.status with err := true, busy := false, done := false } }

/-- R158: every command other than `POIS` ends at its first step, with `DONE` or with a fault.
That a command is one step is the model's granularity: notes/assumptions/5.md. -/
def Obligations.SimpleCommandsEndAtOnce : Prop :=
  ∀ (i : Instr) (s : State), i ≠ .pois →
    ∃ t, exec i s = .next t ∧ t.status.busy = false ∧ (t.status.done = true ∨ t.status.err = true)

/-! ### NOP and NEXT -/

/-- R63: `NOP` completes and does nothing else. -/
def Obligations.NopOnlyCompletes : Prop :=
  ∀ s : State, AnswersAs (exec .nop s) { s with status := { s.status with busy := false, done := true } }

/-- R62, with the function of R61 written out: `NEXT` on a seeded block stores the incremented state and
yields its two rounds of mixing; on a block that is not seeded it faults and leaves the stream and the result
as they are. -/
def Obligations.NextDrawsOnce : Prop :=
  ∀ s : State,
    let s' : Word := s.stream + 0x60BEE2BEE120FC15#64
    let t1 : Nat := s'.toNat * 0xA3B195354A39B70D
    let m1 : Word := BitVec.ofNat 64 (t1 / 2 ^ 64) ^^^ BitVec.ofNat 64 (t1 % 2 ^ 64)
    let t2 : Nat := m1.toNat * 0x1B03738712FAD5C9
    let m2 : Word := BitVec.ofNat 64 (t2 / 2 ^ 64) ^^^ BitVec.ofNat 64 (t2 % 2 ^ 64)
    (s.status.seeded = true → AnswersAs (exec .next s) { s with
      stream := s', res0 := m2, status := { s.status with busy := false, done := true } })
    ∧ (s.status.seeded = false → AnswersAs (exec .next s) { s with
        cause := .noSeed, status := { s.status with err := true, busy := false, done := false } })

/-- R133: `NEXT`, and `POIS` whatever the rate, fault with `NOSEED` when the host has not written `STREAM` since
reset.
The sampler's position is the model's own: notes/assumptions/6.md. -/
def Obligations.UnseededStreamFaults : Prop :=
  ∀ (s : State), s.status.seeded = false → s.engine = .start →
    ∀ i ∈ [Instr.next, Instr.pois], exec i s =
      .next { s with
        cause := .noSeed, engine := .start,
        status := { s.status with err := true, busy := false, done := false } }

/-- R64 (a): over any number of block steps the stream moves by `PRNG_INC` per draw, at most four draws a
step.
The schedule and the size of a step are the model's own: notes/assumptions/3.md, 5.md. -/
def Obligations.StreamMovesByDraws : Prop :=
  ∀ (k : Nat) (s : State), s.env.agenda = [] →
    ∃ t j, runs k s = .next t ∧ j ≤ 4 * k
      ∧ t.stream = s.stream + BitVec.ofNat 64 j * 0x60BEE2BEE120FC15#64

/-- R61, R64 (d): with any odd increment the draws walk through all `2^64` stream values: fewer than `2^64`
draws never come back, and the number of draws can be read off the stream. -/
def Obligations.StreamHasFullPeriod : Prop :=
  ∀ p : Params, p.streamOk = true →
    (∀ (st : Word) (j : Nat), streamAfter p st j = st + BitVec.ofNat 64 j * p.prngInc)
    ∧ (∀ (st : Word) (j : Nat), 0 < j → j < 2 ^ 64 → streamAfter p st j ≠ st)
    ∧ (∃ inv : Word, ∀ (st : Word) (j : Nat), j < 2 ^ 64 →
        ((streamAfter p st j - st) * inv).toNat = j)

/-! ### Multiplies -/

/-- R66, R68: the unsigned products: exact high and low words. -/
def Obligations.UnsignedProductIsExact : Prop :=
  ∀ s : State,
    let P : Nat := s.opa.toNat * s.opb.toNat
    AnswersAs (exec .mulhu s) { s with
      res0 := BitVec.ofNat 64 (P / 2 ^ 64), status := { s.status with busy := false, done := true } }
    ∧ AnswersAs (exec .mulu s) { s with
        res0 := BitVec.ofNat 64 (P / 2 ^ 64), res1 := BitVec.ofNat 64 (P % 2 ^ 64), status := { s.status with busy := false, done := true } }
    ∧ P / 2 ^ 64 < 2 ^ 64

/-- R67, R69: the signed products: the floor of the exact product, and its low word. -/
def Obligations.SignedProductIsExact : Prop :=
  ∀ s : State,
    let P : Int := s.opa.toInt * s.opb.toInt
    AnswersAs (exec .mulhs s) { s with
      res0 := BitVec.ofInt 64 (P / 2 ^ 64), status := { s.status with busy := false, done := true } }
    ∧ AnswersAs (exec .muls s) { s with
        res0 := BitVec.ofInt 64 (P / 2 ^ 64), res1 := BitVec.ofInt 64 (P % 2 ^ 64), status := { s.status with busy := false, done := true } }
    ∧ -2 ^ 62 < P / 2 ^ 64 + 1 ∧ P / 2 ^ 64 ≤ 2 ^ 62

/-- R65, the laws of the multiplier: both exact products, their high and low words, how the signed words
follow from the unsigned ones, and the sign of the signed high word. -/
def Obligations.MultiplierKeepsItsLaws : Prop :=
  ∀ a b : Word,
    let P : Nat := a.toNat * b.toNat
    let Ps : Int := a.toInt * b.toInt
    P ≤ (2 ^ 64 - 1) ^ 2
    ∧ (highWord (product a b)).toNat = P / 2 ^ 64 ∧ (lowWord (product a b)).toNat = P % 2 ^ 64
    ∧ -2 ^ 126 < Ps ∧ Ps ≤ 2 ^ 126 ∧ ((signedProduct a b).toNat : Int) = Ps % 2 ^ 128
    ∧ (highWord (signedProduct a b)).toInt = Ps / 2 ^ 64
    ∧ ((lowWord (signedProduct a b)).toNat : Int) = Ps % 2 ^ 64
    ∧ lowWord (signedProduct a b) = lowWord (product a b)
    ∧ highWord (signedProduct a b) =
        highWord (product a b) - (if a.getLsbD 63 then b else 0) - (if b.getLsbD 63 then a else 0)
    ∧ (a.getLsbD 63 = b.getLsbD 63 →
        0 ≤ (highWord (signedProduct a b)).toInt ∧ (highWord (signedProduct a b)).toInt ≤ 2 ^ 62)
    ∧ (a.getLsbD 63 ≠ b.getLsbD 63 → a ≠ 0 → b ≠ 0 →
        (highWord (signedProduct a b)).toInt < 0
        ∧ (|Ps| ≤ 2 ^ 64 → (highWord (signedProduct a b)).toInt = -1))
    ∧ (a = 0 ∨ b = 0 → highWord (signedProduct a b) = 0 ∧ lowWord (signedProduct a b) = 0)
    ∧ (2 ^ 126 ≤ |Ps| ↔ a = 0x8000000000000000#64 ∧ b = 0x8000000000000000#64)

/-! ### Elementary functions -/

/-- R72, R73: `EXP2` in its domain, the Horner evaluation written out; outside it, the fault. -/
def Obligations.Exp2EvaluatesItsPolynomial : Prop :=
  ∀ s : State,
    (s.opa.toNat < 2 ^ 32 →
      let X := s.opa.toNat * 2 ^ 32
      let h3 := 0x01C0D856793E8772 * X / 2 ^ 64 + 0x069DCA270A78863C
      let h2 := h3 * X / 2 ^ 64 + 0x1EEE0232E1840CA6
      let h1 := h2 * X / 2 ^ 64 + 0x58B31D290BBAC45D
      let h0 := h1 * X / 2 ^ 64 + 0x80001F13478510A6
      AnswersAs (exec .exp2 s) { s with
        res0 := BitVec.ofNat 64 (h0 / 2 ^ 32), status := { s.status with busy := false, done := true } })
    ∧ (2 ^ 32 ≤ s.opa.toNat →
      AnswersAs (exec .exp2 s) { s with
        cause := .domain, status := { s.status with err := true, busy := false, done := false } })

/-- R72, R8: for every parameter record that keeps the constraints, and every operand, the Horner evaluation
stays in `[2^63, 2^64)`, and its result in `[2^31, 2^32)`. -/
def Obligations.Exp2StaysInRange : Prop :=
  ∀ (p : Params) (x : Nat), p.exp2Ok = true → x < 2 ^ 32 →
    2 ^ 63 ≤ expAcc p x ∧ expAcc p x < 2 ^ 64 ∧ 2 ^ 31 ≤ expFix p x ∧ expFix p x < 2 ^ 32

/-- R75, R77: `LOG2N` in its domain, the evaluation written out; outside it, the fault. -/
def Obligations.Log2nEvaluatesItsPolynomial : Prop :=
  ∀ s : State,
    (2 ^ 63 ≤ s.opa.toNat →
      let xn : Int := s.opa.toNat
      let T : Int := if 0xB504F333F9DE6484 < xn then Int.fdiv ((xn - 2 ^ 64) * 2 ^ 64) (xn + 2 ^ 64)
        else Int.fdiv ((xn - 2 ^ 63) * 2 ^ 64) (xn + 2 ^ 63)
      let S := T * T / 2 ^ 64
      let a5 := 0x0DD0C7C3079EEF35 * S / 2 ^ 64 + 0x127471B949FBDABE
      let a3 := a5 * S / 2 ^ 64 + 0x1EC70E607E70C1E1
      let a1 := a3 * S / 2 ^ 64 + 0x5C551D939CAE3DE5
      let e : Int := if 0xB504F333F9DE6484 < xn then 1 else 0
      AnswersAs (exec .log2n s) { s with
        res0 := BitVec.ofInt 64 (e * 2 ^ 63 + 4 * (a1 * T / 2 ^ 64)), status := { s.status with busy := false, done := true } })
    ∧ (s.opa.toNat < 2 ^ 63 →
      AnswersAs (exec .log2n s) { s with
        cause := .domain, status := { s.status with err := true, busy := false, done := false } })

/-- R76: with the default parameters `log2m` lies in `[0, 2^63)` on every normalised mantissa. -/
def Obligations.MantissaLogarithmStaysInRange : Prop :=
  ∀ xn : Nat, 2 ^ 63 ≤ xn → xn < 2 ^ 64 → 0 ≤ log2m params xn ∧ log2m params xn < 2 ^ 63

/-- R79, the function of R78 told by its two halves: the integer part of `LOG2` is the position of the
operand's leading one, its fraction the mantissa's logarithm; zero faults. -/
def Obligations.Log2SplitsExponentAndFraction : Prop :=
  ∀ s : State,
    (s.opa ≠ 0 → ∃ r : Word,
      AnswersAs (exec .log2 s) { s with res0 := r, status := { s.status with busy := false, done := true } }
      ∧ r.toInt / 2 ^ 32 = (s.opa.toNat.log2 : Int) - 32
      ∧ r.toInt % 2 ^ 32 = log2m params (s.opa.toNat * 2 ^ (63 - s.opa.toNat.log2)) / 2 ^ 31)
    ∧ (s.opa = 0 → AnswersAs (exec .log2 s) { s with
        cause := .domain, status := { s.status with err := true, busy := false, done := false } })

/-- R80, R81: `LN` is `LOG2` rescaled by `ln 2`, floored; negative exactly below 1, zero at 1; within its
bounds; the operand zero faults. -/
def Obligations.LnRescalesLog2 : Prop :=
  ∀ s : State,
    (s.opa ≠ 0 → ∃ l u : Word,
      AnswersAs (exec .log2 s) { s with res0 := l, status := { s.status with busy := false, done := true } }
      ∧ AnswersAs (exec .ln s) { s with res0 := u, status := { s.status with busy := false, done := true } }
      ∧ u.toInt = l.toInt * 0x58B90BFBE8E7BCD5 / 2 ^ 63
      ∧ (u.toInt < 0 ↔ s.opa.toNat < 2 ^ 32)
      ∧ (s.opa = 0x100000000#64 → u = 0)
      ∧ -0x162E42FEFB ≤ u.toInt ∧ u.toInt ≤ 0x162E42FEF9)
    ∧ (s.opa = 0 → AnswersAs (exec .ln s) { s with
        cause := .domain, status := { s.status with err := true, busy := false, done := false } })

/-- R83, R85: `SQRT`, its normalisation and its four Newton iterations written out. -/
def Obligations.SqrtRunsFourNewtonSteps : Prop :=
  ∀ s : State,
    let z : Nat := 2 * ((63 - s.opa.toNat.log2) / 2)
    let xn : Int := s.opa.toNat * 2 ^ z
    let f : Int → Int := fun y => y * (3 * 2 ^ 59 - xn * (y * y / 2 ^ 64) / 2 ^ 64 / 2) / 2 ^ 60
    let y0 : Int := 0x9555555555555555 - xn * 0x5555555555555555 / 2 ^ 64
    let r : Int := if s.opa = 0 then 0 else if xn = 2 ^ 62 then 2 ^ (47 - z / 2)
      else xn * f (f (f (f y0))) / 2 ^ (78 + z / 2)
    AnswersAs (exec .sqrt s) { s with
      res0 := BitVec.ofInt 64 r, status := { s.status with busy := false, done := true } }

/-- R83, R84, C13: on a power of four the root is exact, and the special case that returns it is not
observable: the general path gives the same value. -/
def Obligations.SqrtOfPowersOfFourIsExact : Prop :=
  ∀ x : Word, x ≠ 0 → (x.toNat : Int) * 2 ^ sqrtShift x = 2 ^ 62 →
    sqrtFix x * sqrtFix x = x.toNat * 2 ^ 32
    ∧ asr ((2 : Int) ^ 62 * newton (2 ^ 62) sqrtIters (sqrtStart (2 ^ 62))) (78 + sqrtShift x / 2) = sqrtFix x

/-! ### POIS: checks and dispatch -/

/-- R91 (a): a rate of zero, or any pattern with bit 63 set, gives 0 at once, with no draw and no fault.
The sampler's position is the model's own: notes/assumptions/6.md. -/
def Obligations.NonPositiveRateGivesZero : Prop :=
  ∀ s : State, s.engine = .start → s.status.seeded = true → s.opa = 0 ∨ s.opa.getLsbD 63 = true →
    exec .pois s = .next { s with
      res0 := 0, engine := .start,
      status := { s.status with busy := false, done := true } }

/-- R134, R136: on a build with a ceiling, a rate above `RATE_MAX` faults after the seed check and before any
draw; with the default ceiling no rate does.
The sampler's position is the model's own: notes/assumptions/6.md. For
a `RATE_MAX` below 0 the order of the two checks is the model's choice: notes/assumptions/23.md. -/
def Obligations.RateCeilingFaults : Prop :=
  (∀ (p : Params) (s : State), s.engine = .start → s.status.seeded = true → p.rateMax < s.opa.toInt →
    poisWith p s = .next { s with
      cause := .rateRange, engine := .start,
      status := { s.status with err := true, busy := false, done := false } })
  ∧ (∀ s t : State, exec .pois s = .next t → s.cause ≠ .rateRange → t.cause ≠ .rateRange)

/-- R91, R11: which engine a positive rate opens, the thresholds included in the lower one, and the registers
it starts from.
The size of a step and the sampler's position are the model's own: notes/assumptions/5.md, 6.md. In a build whose
constants bring a divisor of the set-up to 0, the quotient is the model's choice too: notes/assumptions/21.md. -/
def Obligations.RateSelectsTheEngine : Prop :=
  ∀ (p : Params) (s : State), s.engine = .start → s.status.seeded = true →
    0 < s.opa.toInt → s.opa.toInt ≤ p.rateMax →
    (s.opa.toInt ≤ p.tSmall → poisWith p s = .next { s with
      engine := .scalar,
      work := { s.work with
        n := digitBudget s.opa.toInt, E64 := startMantissa p s.opa.toInt,
        acc := startMantissa p s.opa.toInt, B := digitBudget s.opa.toInt, k := 0 } })
    ∧ (p.tSmall < s.opa.toInt → s.opa.toInt ≤ p.tMed → poisWith p s = .next { s with
      engine := .lanes,
      lanes := { s.lanes with cur := lanesOne },
      work := { s.work with n := digitBudget s.opa.toInt, E64 := startMantissa p s.opa.toInt, k := 0 } })
    ∧ (p.tSmall < s.opa.toInt → p.tMed < s.opa.toInt → poisWith p s = .next { s with
      engine := .ptrs,
      work := ptrsSetup p s.opa.toInt s.work })

/-- R93: the digits of a rate up to `T_MED`: the budget is at most 54, and the starting mantissa has bit 63
set and is the exponential of the fraction. -/
def Obligations.DigitsOfARate : Prop :=
  ∀ rate : Int, 0 < rate → rate ≤ params.tMed →
    (digitBudget rate : Int) = rate * 0x5C551D94AE0BF85D / 2 ^ 62 / 2 ^ 32
    ∧ digitBudget rate ≤ 54
    ∧ (startMantissa params rate).getLsbD 63 = true
    ∧ (startMantissa params rate).toNat =
        expFix params (rate * 0x5C551D94AE0BF85D / 2 ^ 62 % 2 ^ 32).toNat * 2 ^ 32

/-! ### POIS: the digit-counting engines -/

/-- R94: one iteration of the scalar loop, written out on numbers.
The size of a step and the sampler's position are the model's own: notes/assumptions/5.md, 6.md. -/
def Obligations.ScalarIterationMultipliesOnce : Prop :=
  ∀ s : State, s.engine = .scalar →
    let r : Nat := (nextRaw params s.stream).1.toNat
    let q : Nat := (s.work.acc.toNat * r / 2 ^ 64) ||| 1
    let z : Nat := 63 - q.log2
    exec .pois s = .next
      (if s.work.B - z < 0 then
        { s with
          stream := s.stream + params.prngInc, res0 := BitVec.ofInt 64 (s.work.k % 2 ^ 32),
          work := { s.work with acc := BitVec.ofNat 64 (q * 2 ^ z), B := s.work.B - z },
          engine := .start, status := { s.status with busy := false, done := true } }
       else
        { s with
          stream := s.stream + params.prngInc,
          work := { s.work with acc := BitVec.ofNat 64 (q * 2 ^ z), B := s.work.B - z, k := s.work.k + 1 } })

/-- R94: the scalar engine makes one draw more than its count. -/
def Obligations.ScalarDrawsOneMoreThanItsCount : Prop :=
  ∀ (p : Params) (fuel : Nat) (rate : Int) (st st' : Word) (k : Int),
    poisScalar p fuel rate st = some (k, st') →
      0 ≤ k ∧ st' = st + BitVec.ofInt 64 (k + 1) * p.prngInc

/-- R98: a lane's multiplication on numbers: forced odd, normalised, its digits counted without leaving 16
signed bits. -/
def Obligations.LaneMultiplicationIsExact : Prop :=
  ∀ (l : Lane) (u : BitVec 16), l.a.getLsbD 15 = true →
    let q : Nat := l.a.toNat * (u.toNat ||| 1)
    let z : Nat := 31 - q.log2
    (laneStep l u).a = BitVec.ofNat 16 (q * 2 ^ z / 2 ^ 16)
    ∧ (laneStep l u).a.getLsbD 15 = true ∧ z ≤ 16
    ∧ (l.d.toInt ≤ 32751 → (laneStep l u).d.toInt = l.d.toInt + z)

/-- R98: which bits of which draw a lane takes. -/
def Obligations.LanesCutTheDraws : Prop :=
  ∀ (w : Vector Word 4) (x : Snapshot) (j : Fin 16),
    (laneUniform w j).toNat = (w[j.val / 4]'(by omega)).toNat / 2 ^ (16 * (j.val % 4)) % 2 ^ 16
    ∧ (lanesStep x w)[j] = laneStep x[j] (laneUniform w j)

/-- R99: a multiplication of the fold, exact on numbers, its factors normalised; the fold of normalised lanes
is normalised and adds 0 to 16 digits; lanes at their initial value count no digit. -/
def Obligations.FoldIsNormalised : Prop :=
  (∀ (F : Word) (Z : Nat) (l : Lane), F.getLsbD 63 = true → l.a.getLsbD 15 = true →
    let q : Nat := F.toNat * (l.a.toNat * 2 ^ 48) / 2 ^ 64
    foldStep (F, Z) l =
      if 2 ^ 63 ≤ q then (BitVec.ofNat 64 q, Z) else (BitVec.ofNat 64 (2 * q), Z + 1))
  ∧ (∀ (x : Snapshot) (E64 : Word), E64.getLsbD 63 = true → (∀ j : Fin 16, x[j].a.getLsbD 15 = true) →
    (fold x E64).1.getLsbD 63 = true ∧ (fold x E64).2 ≤ 16 ∧ combinedDigits lanesOne E64 = 0)

/-- R101: after a batch that crossed the budget the lookback finds the first lane whose mixed state has
crossed it. -/
def Obligations.LookbackFindsTheFirstCrossing : Prop :=
  ∀ (n : Nat) (E64 : Word) (l : LaneFile), (n : Int) < combinedDigits l.cur E64 →
    crossingLane n E64 l < 16
    ∧ (n : Int) < combinedDigits (mix (crossingLane n E64 l) l) E64
    ∧ ∀ i < crossingLane n E64 l, combinedDigits (mix i l) E64 ≤ n

/-- R102: one iteration of the 16-lane loop: the snapshot, four draws, the batch, and either 16 more counts
or the result.
The size of a step and the sampler's position are the model's own: notes/assumptions/5.md, 6.md. -/
def Obligations.LanesIterationRunsOneBatch : Prop :=
  ∀ s : State, s.engine = .lanes →
    let w := batchWords params s.stream
    let new := lanesStep s.lanes.cur w
    let file : LaneFile := { cur := new, prev := s.lanes.cur }
    exec .pois s = .next
      (if combinedDigits new s.work.E64 ≤ s.work.n then
        { s with
          stream := s.stream + 4 * params.prngInc, lanes := file,
          work := { s.work with k := s.work.k + 16 } }
       else
        { s with
          stream := s.stream + 4 * params.prngInc, lanes := file,
          res0 := BitVec.ofInt 64 ((s.work.k + crossingLane s.work.n s.work.E64 file) % 2 ^ 32),
          engine := .start, status := { s.status with busy := false, done := true } })

/-- R102: the 16-lane engine makes four draws a batch: `4·(k div 16 + 1)` for a result `k`. -/
def Obligations.LanesDrawFourPerBatch : Prop :=
  ∀ (p : Params) (fuel : Nat) (rate : Int) (st st' : Word) (k : Int),
    poisVector p fuel rate st = some (k, st') →
      0 ≤ k ∧ st' = st + BitVec.ofInt 64 (4 * (k / 16 + 1)) * p.prngInc

/-! ### POIS: the transformed-rejection engine -/

/-- R115, R116: the fast path of a PTRS iteration: one draw, and the candidate of the affine formula is the
result.
The size of a step and the sampler's position are the model's own: notes/assumptions/5.md, 6.md. In states that no run
reaches, a quotient by `vr` or `us` at 0 is the model's choice too: notes/assumptions/21.md. -/
def Obligations.PtrsFastPathReturns : Prop :=
  ∀ s : State, s.engine = .ptrs →
    let V : Int := (nextRaw params s.stream).1.toNat / 2 ^ 32
    let U : Int := Int.fdiv (V * 2 ^ 32) s.work.vr - 0x6E147AE1
    let us : Int := 0x80000000 - |U|
    let k : Int := ((Int.fdiv (2 * s.work.a * 2 ^ 32) us + s.work.b) * U / 2 ^ 32 + s.opa.toInt + 0x71EB851F) / 2 ^ 32
    V < s.work.vr86 →
    exec .pois s = .next { s with
      stream := s.stream + params.prngInc,
      work := { s.work with V := V, U := U, us := us, k := k },
      res0 := BitVec.ofInt 64 (k % 2 ^ 32), engine := .start,
      status := { s.status with busy := false, done := true } }

/-- R117 to R122: every other iteration makes two draws. Written out: the reassignment of `U` and `V` by its two
sub-cases, the guard, the candidate and its range, the rescaling, and the test by natural logarithms, with the
correction from 10 on and with the table below. An accepted candidate is the result; a rejected one leaves
everything but the stream and the per-iteration registers as it was.
The size of a step and the sampler's position are the model's own: notes/assumptions/5.md, 6.md. In states
that no run reaches, a quotient by 0 and the reduction of a logarithm's argument to 64 bits are the model's choice
too: notes/assumptions/11.md, 21.md, 22.md. -/
def Obligations.PtrsSlowPathDecidesByItsTests : Prop :=
  ∀ s : State, s.engine = .ptrs →
    let V0 : Int := (nextRaw params s.stream).1.toNat / 2 ^ 32
    let t : Int := (nextRaw params (s.stream + params.prngInc)).1.toNat / 2 ^ 32
    let u : Int := s.opa.toInt
    let Uo : Int := Int.fdiv (V0 * 2 ^ 32) s.work.vr - 0xEE147AE1
    let U : Int := if s.work.vr ≤ V0 then t - 2 ^ 31 else (if 0 ≤ Uo then 2 ^ 31 else -2 ^ 31) - Uo
    let V : Int := if s.work.vr ≤ V0 then V0 else t * s.work.vr / 2 ^ 32
    let us : Int := 2 ^ 31 - |U|
    let k : Int := ((Int.fdiv (2 * s.work.a * 2 ^ 32) us + s.work.b) * U / 2 ^ 32 + u + 0x71EB851F) / 2 ^ 32
    let den : Int := Int.fdiv (Int.fdiv (s.work.a * 2 ^ 32) us * 2 ^ 32) us + s.work.b
    let Vp : Int := max (Int.fdiv (V * s.work.invAlpha / 2 ^ 32 * 2 ^ 32) den) 1
    let ln : Int → Int := fun x => lnFix params (BitVec.ofInt 64 (max x 1))
    let corr : Int := Int.fdiv (0x15555555 - Int.fdiv (2 ^ 32) (360 * k * k)) k
    let table : Int := [0x0, 0x0, 0xB17217F8, 0x1CAB0BFA3, 0x32D94EF92, 0x4C9990F11, 0x69449CEB4, 0x88670F997,
      0xA9AC7417E, 0xCCD4490D4].getD k.toNat 0
    let guarded : Prop := us = 0 ∨ (us < 0x0353F7CF ∧ us < V)
    let accepted : Prop := ¬ guarded ∧ 0 ≤ k ∧ k < 2 ^ 32
      ∧ (10 ≤ k → ln (Vp * s.work.smu / 2 ^ 32) <
          (k * 2 ^ 32 + 2 ^ 31) * ln (Int.fdiv u k) / 2 ^ 32 - u - 0xEB3F8E43 + k * 2 ^ 32 - corr)
      ∧ (k < 10 → ln Vp < k * s.work.lnu - u - table)
    s.work.vr86 ≤ V0 →
    ∃ w : Work,
      (accepted → exec .pois s = .next { s with
        stream := s.stream + 2 * params.prngInc, work := w, res0 := BitVec.ofInt 64 k,
        engine := .start, status := { s.status with busy := false, done := true } })
      ∧ (¬ accepted → exec .pois s = .next { s with stream := s.stream + 2 * params.prngInc, work := w })
      ∧ w.V = V ∧ w.t = t ∧ w.U = U ∧ w.us = us
      ∧ w.smu = s.work.smu ∧ w.b = s.work.b ∧ w.a = s.work.a ∧ w.vr = s.work.vr
      ∧ w.invAlpha = s.work.invAlpha ∧ w.vr86 = s.work.vr86 ∧ w.lnu = s.work.lnu
      ∧ w.n = s.work.n ∧ w.E64 = s.work.E64 ∧ w.acc = s.work.acc ∧ w.B = s.work.B

/-- R117: with the default constants `us` is never negative on the slow path. -/
def Obligations.SlowPathKeepsUsNonNegative : Prop :=
  ∀ w : Work, 0 < w.vr → 0 ≤ w.V → 0 ≤ w.t → w.t < 2 ^ 32 → 0 ≤ (ptrsSlow params w).us

/-- R119: the two-stage squeeze accepts exactly what its second stage alone accepts, because the Stirling
correction is not negative. In states that no run reaches, the
reduction of a logarithm's argument to 64 bits is the model's own: notes/assumptions/11.md, and where it gives 0
22.md. -/
def Obligations.SqueezeStagesAgree : Prop :=
  ∀ (u : Int) (w : Work), 10 ≤ w.k →
    let v := ptrsCorr params (ptrsSides params u w)
    0 ≤ v.corr ∧ ((ptrsSqueeze params u w).2 = true ↔ v.lhs < v.rhs0 - v.corr)

/-- R120: the test below 10: natural logarithms, strict, with the table entry of `k`. For a `Vp` of `2^64` or more, which no
run reaches, the reduction of the logarithm's argument to 64 bits is the model's own: notes/assumptions/11.md, and
where it gives 0 22.md. -/
def Obligations.SmallCandidatesUseTheTable : Prop :=
  ∀ (u : Int) (w : Work) (k : Fin 10), w.k = k.val →
    ((ptrsTable params u w).2 = true ↔
      lnFix params (u64 (max w.Vp 1)) < k.val * w.lnu - u -
        [0x0, 0x0, 0xB17217F8, 0x1CAB0BFA3, 0x32D94EF92, 0x4C9990F11, 0x69449CEB4, 0x88670F997,
          0xA9AC7417E, 0xCCD4490D4].getD k.val 0)

/-- R113: the set-up writes its seven registers by its formulas, from the rate alone. For a rate outside
`(T_MED, 2^63)` the reduction of the rate to 64 bits, the functions outside their domains and a quotient by 0 are the
model's own: notes/assumptions/11.md, 22.md, 21.md. -/
def Obligations.PtrsSetupFormulas : Prop :=
  ∀ (u : Int) (w : Work),
    let v := ptrsSetup params u w
    v.smu = sqrtFix (BitVec.ofInt 64 u)
    ∧ v.b = 0xEE560419 + 0x287AE147B * v.smu / 2 ^ 32
    ∧ v.a = 0x065B4246 * v.b / 2 ^ 32 - 0x0F1A9FBE
    ∧ v.vr = 0xED7DBF48 - Int.fdiv (0x39F559B3D * 2 ^ 32) (v.b - 0x200000000)
    ∧ v.invAlpha = 0x11FB7E910 + Int.fdiv (0x121FF2E49 * 2 ^ 32) (v.b - 0x366666666)
    ∧ v.vr86 = 0xDC28F5C3 * v.vr / 2 ^ 32
    ∧ v.lnu = lnFix params (BitVec.ofInt 64 u)

/-! ### Headlines -/

/-- R91, R94, R102, R121: a run of the block from an accepted `POIS` computes the function the spec's
pseudocode defines: the count in `RES0`, the final stream in `STREAM`, every other register as it was; and
while the engine has not stopped the block stays busy (R103, R124).
The schedule, the size of a step and the sampler's position are the model's own: notes/assumptions/3.md, 5.md, 6.md. -/
def Obligations.PoisRunComputesTheEngineFunction : Prop :=
  ∀ (s : State) (fuel : Nat), s.env.agenda = [] → s.status.busy = true → s.cmd = encode .pois →
    s.engine = .start → s.status.seeded = true →
    ∃ t, runs (fuel + 1) s = .next t
      ∧ t.cmd = s.cmd ∧ t.opa = s.opa ∧ t.opb = s.opb ∧ t.res1 = s.res1 ∧ t.cause = s.cause ∧ t.env = s.env
      ∧ (∀ k st', poisFunction params fuel s.opa.toInt s.stream = some (k, st') →
          t.res0 = BitVec.ofInt 64 (k % 2 ^ 32) ∧ t.stream = st'
          ∧ t.status = { s.status with busy := false, done := true })
      ∧ (poisFunction params fuel s.opa.toInt s.stream = none →
          t.status = s.status ∧ t.res0 = s.res0)

/-- Every step of the machine keeps the invariant: the flags exclusive (R24), the cause matching (R25), an
open sampler loop only in a running, seeded `POIS` with its registers as its regime keeps them (R29, R95,
R102, R113).
The sampler's position is the model's own: notes/assumptions/6.md. -/
def Obligations.EveryStepKeepsCoherence : Prop :=
  ∀ s t : State, Coherent s → step s = .next t → Coherent t

/-- The state after reset meets the invariant. -/
def Obligations.ResetIsCoherent : Prop := Coherent State.reset

/-- R160: no run depends on what the lane file and the working registers held before they were written: two
states that agree elsewhere stay alike, and every host sees the same, step for step.
What these registers hold at reset is the model's choice, notes/assumptions/4.md, and this says that it does not matter. -/
def Obligations.OldWorkingStateNeverShows : Prop :=
  ∀ (k : Nat) (s t : State), Alike s t → AlikeOutcome (runs k s) (runs k t)

/-- The default parameter record keeps the constraints of R7 to R15. -/
def Obligations.DefaultParametersAreValid : Prop := params.valid = true
end

