-- ==== Sys2Proof/Laws/PerInstr.lean ====
section
/-! SUPPORT. What is said of every command as syntax, command by command: its word has nothing in the reserved
field, and its opcode stands in the map once, against it (spec/30_encoding.md R50, R52). -/

namespace Sys2Proof.Laws.EncodingForm

/-- The word of a command: reserved bits 0, the opcode in the map against this command, and against no
other. -/
def Statement (i : Instr) : Prop :=
  i.wellFormed = true ∧ rsvField (encode i) = 0 ∧ opcodeMap.lookup (opcodeField (encode i)) = some i
    ∧ (opcodeMap.filter fun row => row.2 == i) = [(opcodeField (encode i), i)]

theorem nop : Statement .nop := by unfold Statement; decide
theorem next : Statement .next := by unfold Statement; decide
theorem mulhu : Statement .mulhu := by unfold Statement; decide
theorem mulhs : Statement .mulhs := by unfold Statement; decide
theorem mulu : Statement .mulu := by unfold Statement; decide
theorem muls : Statement .muls := by unfold Statement; decide
theorem exp2 : Statement .exp2 := by unfold Statement; decide
theorem log2n : Statement .log2n := by unfold Statement; decide
theorem log2 : Statement .log2 := by unfold Statement; decide
theorem ln : Statement .ln := by unfold Statement; decide
theorem sqrt : Statement .sqrt := by unfold Statement; decide
theorem pois : Statement .pois := by unfold Statement; decide

end Sys2Proof.Laws.EncodingForm
end

