-- ==== Sys2Proof/Laws/State.lean ====
section
/-! SUPPORT. One lemma per field per update of the state, so that no later proof unfolds a record update.
The proofs are written `(rfl)` and not `rfl`: simp then rewrites with these lemmas by a proof term and not up to
definitional equality, where the kernel could be led to compare `s.stream + params.prngInc` with `s.stream` by
counting up the constant. -/

namespace Sys2Proof.Machine

variable (s : State)

/-! ### setRes0 -/

@[simp] theorem setRes0_cmd (v : Word) : (setRes0 v s).cmd = s.cmd := (rfl)
@[simp] theorem setRes0_status (v : Word) : (setRes0 v s).status = s.status := (rfl)
@[simp] theorem setRes0_cause (v : Word) : (setRes0 v s).cause = s.cause := (rfl)
@[simp] theorem setRes0_opa (v : Word) : (setRes0 v s).opa = s.opa := (rfl)
@[simp] theorem setRes0_opb (v : Word) : (setRes0 v s).opb = s.opb := (rfl)
@[simp] theorem setRes0_res0 (v : Word) : (setRes0 v s).res0 = v := (rfl)
@[simp] theorem setRes0_res1 (v : Word) : (setRes0 v s).res1 = s.res1 := (rfl)
@[simp] theorem setRes0_stream (v : Word) : (setRes0 v s).stream = s.stream := (rfl)
@[simp] theorem setRes0_lanes (v : Word) : (setRes0 v s).lanes = s.lanes := (rfl)
@[simp] theorem setRes0_work (v : Word) : (setRes0 v s).work = s.work := (rfl)
@[simp] theorem setRes0_engine (v : Word) : (setRes0 v s).engine = s.engine := (rfl)
@[simp] theorem setRes0_env (v : Word) : (setRes0 v s).env = s.env := (rfl)

/-! ### setRes1 -/

@[simp] theorem setRes1_cmd (v : Word) : (setRes1 v s).cmd = s.cmd := (rfl)
@[simp] theorem setRes1_status (v : Word) : (setRes1 v s).status = s.status := (rfl)
@[simp] theorem setRes1_cause (v : Word) : (setRes1 v s).cause = s.cause := (rfl)
@[simp] theorem setRes1_opa (v : Word) : (setRes1 v s).opa = s.opa := (rfl)
@[simp] theorem setRes1_opb (v : Word) : (setRes1 v s).opb = s.opb := (rfl)
@[simp] theorem setRes1_res0 (v : Word) : (setRes1 v s).res0 = s.res0 := (rfl)
@[simp] theorem setRes1_res1 (v : Word) : (setRes1 v s).res1 = v := (rfl)
@[simp] theorem setRes1_stream (v : Word) : (setRes1 v s).stream = s.stream := (rfl)
@[simp] theorem setRes1_lanes (v : Word) : (setRes1 v s).lanes = s.lanes := (rfl)
@[simp] theorem setRes1_work (v : Word) : (setRes1 v s).work = s.work := (rfl)
@[simp] theorem setRes1_engine (v : Word) : (setRes1 v s).engine = s.engine := (rfl)
@[simp] theorem setRes1_env (v : Word) : (setRes1 v s).env = s.env := (rfl)

/-! ### setStream -/

@[simp] theorem setStream_cmd (v : Word) : (setStream v s).cmd = s.cmd := (rfl)
@[simp] theorem setStream_status (v : Word) : (setStream v s).status = s.status := (rfl)
@[simp] theorem setStream_cause (v : Word) : (setStream v s).cause = s.cause := (rfl)
@[simp] theorem setStream_opa (v : Word) : (setStream v s).opa = s.opa := (rfl)
@[simp] theorem setStream_opb (v : Word) : (setStream v s).opb = s.opb := (rfl)
@[simp] theorem setStream_res0 (v : Word) : (setStream v s).res0 = s.res0 := (rfl)
@[simp] theorem setStream_res1 (v : Word) : (setStream v s).res1 = s.res1 := (rfl)
@[simp] theorem setStream_stream (v : Word) : (setStream v s).stream = v := (rfl)
@[simp] theorem setStream_lanes (v : Word) : (setStream v s).lanes = s.lanes := (rfl)
@[simp] theorem setStream_work (v : Word) : (setStream v s).work = s.work := (rfl)
@[simp] theorem setStream_engine (v : Word) : (setStream v s).engine = s.engine := (rfl)
@[simp] theorem setStream_env (v : Word) : (setStream v s).env = s.env := (rfl)

/-! ### setOpa -/

@[simp] theorem setOpa_cmd (v : Word) : (setOpa v s).cmd = s.cmd := (rfl)
@[simp] theorem setOpa_status (v : Word) : (setOpa v s).status = s.status := (rfl)
@[simp] theorem setOpa_cause (v : Word) : (setOpa v s).cause = s.cause := (rfl)
@[simp] theorem setOpa_opa (v : Word) : (setOpa v s).opa = v := (rfl)
@[simp] theorem setOpa_opb (v : Word) : (setOpa v s).opb = s.opb := (rfl)
@[simp] theorem setOpa_res0 (v : Word) : (setOpa v s).res0 = s.res0 := (rfl)
@[simp] theorem setOpa_res1 (v : Word) : (setOpa v s).res1 = s.res1 := (rfl)
@[simp] theorem setOpa_stream (v : Word) : (setOpa v s).stream = s.stream := (rfl)
@[simp] theorem setOpa_lanes (v : Word) : (setOpa v s).lanes = s.lanes := (rfl)
@[simp] theorem setOpa_work (v : Word) : (setOpa v s).work = s.work := (rfl)
@[simp] theorem setOpa_engine (v : Word) : (setOpa v s).engine = s.engine := (rfl)
@[simp] theorem setOpa_env (v : Word) : (setOpa v s).env = s.env := (rfl)

/-! ### setOpb -/

@[simp] theorem setOpb_cmd (v : Word) : (setOpb v s).cmd = s.cmd := (rfl)
@[simp] theorem setOpb_status (v : Word) : (setOpb v s).status = s.status := (rfl)
@[simp] theorem setOpb_cause (v : Word) : (setOpb v s).cause = s.cause := (rfl)
@[simp] theorem setOpb_opa (v : Word) : (setOpb v s).opa = s.opa := (rfl)
@[simp] theorem setOpb_opb (v : Word) : (setOpb v s).opb = v := (rfl)
@[simp] theorem setOpb_res0 (v : Word) : (setOpb v s).res0 = s.res0 := (rfl)
@[simp] theorem setOpb_res1 (v : Word) : (setOpb v s).res1 = s.res1 := (rfl)
@[simp] theorem setOpb_stream (v : Word) : (setOpb v s).stream = s.stream := (rfl)
@[simp] theorem setOpb_lanes (v : Word) : (setOpb v s).lanes = s.lanes := (rfl)
@[simp] theorem setOpb_work (v : Word) : (setOpb v s).work = s.work := (rfl)
@[simp] theorem setOpb_engine (v : Word) : (setOpb v s).engine = s.engine := (rfl)
@[simp] theorem setOpb_env (v : Word) : (setOpb v s).env = s.env := (rfl)

/-! ### setStatus -/

@[simp] theorem setStatus_cmd (v : Status) : (setStatus v s).cmd = s.cmd := (rfl)
@[simp] theorem setStatus_status (v : Status) : (setStatus v s).status = v := (rfl)
@[simp] theorem setStatus_cause (v : Status) : (setStatus v s).cause = s.cause := (rfl)
@[simp] theorem setStatus_opa (v : Status) : (setStatus v s).opa = s.opa := (rfl)
@[simp] theorem setStatus_opb (v : Status) : (setStatus v s).opb = s.opb := (rfl)
@[simp] theorem setStatus_res0 (v : Status) : (setStatus v s).res0 = s.res0 := (rfl)
@[simp] theorem setStatus_res1 (v : Status) : (setStatus v s).res1 = s.res1 := (rfl)
@[simp] theorem setStatus_stream (v : Status) : (setStatus v s).stream = s.stream := (rfl)
@[simp] theorem setStatus_lanes (v : Status) : (setStatus v s).lanes = s.lanes := (rfl)
@[simp] theorem setStatus_work (v : Status) : (setStatus v s).work = s.work := (rfl)
@[simp] theorem setStatus_engine (v : Status) : (setStatus v s).engine = s.engine := (rfl)
@[simp] theorem setStatus_env (v : Status) : (setStatus v s).env = s.env := (rfl)

/-! ### setCause -/

@[simp] theorem setCause_cmd (v : Cause) : (setCause v s).cmd = s.cmd := (rfl)
@[simp] theorem setCause_status (v : Cause) : (setCause v s).status = s.status := (rfl)
@[simp] theorem setCause_cause (v : Cause) : (setCause v s).cause = v := (rfl)
@[simp] theorem setCause_opa (v : Cause) : (setCause v s).opa = s.opa := (rfl)
@[simp] theorem setCause_opb (v : Cause) : (setCause v s).opb = s.opb := (rfl)
@[simp] theorem setCause_res0 (v : Cause) : (setCause v s).res0 = s.res0 := (rfl)
@[simp] theorem setCause_res1 (v : Cause) : (setCause v s).res1 = s.res1 := (rfl)
@[simp] theorem setCause_stream (v : Cause) : (setCause v s).stream = s.stream := (rfl)
@[simp] theorem setCause_lanes (v : Cause) : (setCause v s).lanes = s.lanes := (rfl)
@[simp] theorem setCause_work (v : Cause) : (setCause v s).work = s.work := (rfl)
@[simp] theorem setCause_engine (v : Cause) : (setCause v s).engine = s.engine := (rfl)
@[simp] theorem setCause_env (v : Cause) : (setCause v s).env = s.env := (rfl)

/-! ### setLanes -/

@[simp] theorem setLanes_cmd (v : LaneFile) : (setLanes v s).cmd = s.cmd := (rfl)
@[simp] theorem setLanes_status (v : LaneFile) : (setLanes v s).status = s.status := (rfl)
@[simp] theorem setLanes_cause (v : LaneFile) : (setLanes v s).cause = s.cause := (rfl)
@[simp] theorem setLanes_opa (v : LaneFile) : (setLanes v s).opa = s.opa := (rfl)
@[simp] theorem setLanes_opb (v : LaneFile) : (setLanes v s).opb = s.opb := (rfl)
@[simp] theorem setLanes_res0 (v : LaneFile) : (setLanes v s).res0 = s.res0 := (rfl)
@[simp] theorem setLanes_res1 (v : LaneFile) : (setLanes v s).res1 = s.res1 := (rfl)
@[simp] theorem setLanes_stream (v : LaneFile) : (setLanes v s).stream = s.stream := (rfl)
@[simp] theorem setLanes_lanes (v : LaneFile) : (setLanes v s).lanes = v := (rfl)
@[simp] theorem setLanes_work (v : LaneFile) : (setLanes v s).work = s.work := (rfl)
@[simp] theorem setLanes_engine (v : LaneFile) : (setLanes v s).engine = s.engine := (rfl)
@[simp] theorem setLanes_env (v : LaneFile) : (setLanes v s).env = s.env := (rfl)

/-! ### setWork -/

@[simp] theorem setWork_cmd (v : Work) : (setWork v s).cmd = s.cmd := (rfl)
@[simp] theorem setWork_status (v : Work) : (setWork v s).status = s.status := (rfl)
@[simp] theorem setWork_cause (v : Work) : (setWork v s).cause = s.cause := (rfl)
@[simp] theorem setWork_opa (v : Work) : (setWork v s).opa = s.opa := (rfl)
@[simp] theorem setWork_opb (v : Work) : (setWork v s).opb = s.opb := (rfl)
@[simp] theorem setWork_res0 (v : Work) : (setWork v s).res0 = s.res0 := (rfl)
@[simp] theorem setWork_res1 (v : Work) : (setWork v s).res1 = s.res1 := (rfl)
@[simp] theorem setWork_stream (v : Work) : (setWork v s).stream = s.stream := (rfl)
@[simp] theorem setWork_lanes (v : Work) : (setWork v s).lanes = s.lanes := (rfl)
@[simp] theorem setWork_work (v : Work) : (setWork v s).work = v := (rfl)
@[simp] theorem setWork_engine (v : Work) : (setWork v s).engine = s.engine := (rfl)
@[simp] theorem setWork_env (v : Work) : (setWork v s).env = s.env := (rfl)

/-! ### setEngine -/

@[simp] theorem setEngine_cmd (v : Engine) : (setEngine v s).cmd = s.cmd := (rfl)
@[simp] theorem setEngine_status (v : Engine) : (setEngine v s).status = s.status := (rfl)
@[simp] theorem setEngine_cause (v : Engine) : (setEngine v s).cause = s.cause := (rfl)
@[simp] theorem setEngine_opa (v : Engine) : (setEngine v s).opa = s.opa := (rfl)
@[simp] theorem setEngine_opb (v : Engine) : (setEngine v s).opb = s.opb := (rfl)
@[simp] theorem setEngine_res0 (v : Engine) : (setEngine v s).res0 = s.res0 := (rfl)
@[simp] theorem setEngine_res1 (v : Engine) : (setEngine v s).res1 = s.res1 := (rfl)
@[simp] theorem setEngine_stream (v : Engine) : (setEngine v s).stream = s.stream := (rfl)
@[simp] theorem setEngine_lanes (v : Engine) : (setEngine v s).lanes = s.lanes := (rfl)
@[simp] theorem setEngine_work (v : Engine) : (setEngine v s).work = s.work := (rfl)
@[simp] theorem setEngine_engine (v : Engine) : (setEngine v s).engine = v := (rfl)
@[simp] theorem setEngine_env (v : Engine) : (setEngine v s).env = s.env := (rfl)

/-! ### setEnv -/

@[simp] theorem setEnv_cmd (v : Env) : (setEnv v s).cmd = s.cmd := (rfl)
@[simp] theorem setEnv_status (v : Env) : (setEnv v s).status = s.status := (rfl)
@[simp] theorem setEnv_cause (v : Env) : (setEnv v s).cause = s.cause := (rfl)
@[simp] theorem setEnv_opa (v : Env) : (setEnv v s).opa = s.opa := (rfl)
@[simp] theorem setEnv_opb (v : Env) : (setEnv v s).opb = s.opb := (rfl)
@[simp] theorem setEnv_res0 (v : Env) : (setEnv v s).res0 = s.res0 := (rfl)
@[simp] theorem setEnv_res1 (v : Env) : (setEnv v s).res1 = s.res1 := (rfl)
@[simp] theorem setEnv_stream (v : Env) : (setEnv v s).stream = s.stream := (rfl)
@[simp] theorem setEnv_lanes (v : Env) : (setEnv v s).lanes = s.lanes := (rfl)
@[simp] theorem setEnv_work (v : Env) : (setEnv v s).work = s.work := (rfl)
@[simp] theorem setEnv_engine (v : Env) : (setEnv v s).engine = s.engine := (rfl)
@[simp] theorem setEnv_env (v : Env) : (setEnv v s).env = v := (rfl)

/-! ### setAgenda -/

@[simp] theorem setAgenda_cmd (v : List Event) : (setAgenda v s).cmd = s.cmd := (rfl)
@[simp] theorem setAgenda_status (v : List Event) : (setAgenda v s).status = s.status := (rfl)
@[simp] theorem setAgenda_cause (v : List Event) : (setAgenda v s).cause = s.cause := (rfl)
@[simp] theorem setAgenda_opa (v : List Event) : (setAgenda v s).opa = s.opa := (rfl)
@[simp] theorem setAgenda_opb (v : List Event) : (setAgenda v s).opb = s.opb := (rfl)
@[simp] theorem setAgenda_res0 (v : List Event) : (setAgenda v s).res0 = s.res0 := (rfl)
@[simp] theorem setAgenda_res1 (v : List Event) : (setAgenda v s).res1 = s.res1 := (rfl)
@[simp] theorem setAgenda_stream (v : List Event) : (setAgenda v s).stream = s.stream := (rfl)
@[simp] theorem setAgenda_lanes (v : List Event) : (setAgenda v s).lanes = s.lanes := (rfl)
@[simp] theorem setAgenda_work (v : List Event) : (setAgenda v s).work = s.work := (rfl)
@[simp] theorem setAgenda_engine (v : List Event) : (setAgenda v s).engine = s.engine := (rfl)
@[simp] theorem setAgenda_env (v : List Event) : (setAgenda v s).env = { s.env with agenda := v } := (rfl)

/-! ### issue -/

@[simp] theorem issue_cmd (v : Word) : (issue v s).cmd = v := (rfl)
@[simp] theorem issue_status (v : Word) : (issue v s).status = flagsIssued s.status := (rfl)
@[simp] theorem issue_cause (v : Word) : (issue v s).cause = s.cause := (rfl)
@[simp] theorem issue_opa (v : Word) : (issue v s).opa = s.opa := (rfl)
@[simp] theorem issue_opb (v : Word) : (issue v s).opb = s.opb := (rfl)
@[simp] theorem issue_res0 (v : Word) : (issue v s).res0 = s.res0 := (rfl)
@[simp] theorem issue_res1 (v : Word) : (issue v s).res1 = s.res1 := (rfl)
@[simp] theorem issue_stream (v : Word) : (issue v s).stream = s.stream := (rfl)
@[simp] theorem issue_lanes (v : Word) : (issue v s).lanes = s.lanes := (rfl)
@[simp] theorem issue_work (v : Word) : (issue v s).work = s.work := (rfl)
@[simp] theorem issue_engine (v : Word) : (issue v s).engine = .start := (rfl)
@[simp] theorem issue_env (v : Word) : (issue v s).env = s.env := (rfl)

/-! ### raiseFault -/

@[simp] theorem raiseFault_cmd (v : Cause) : (raiseFault v s).cmd = s.cmd := (rfl)
@[simp] theorem raiseFault_status (v : Cause) : (raiseFault v s).status = flagsFaulted s.status := (rfl)
@[simp] theorem raiseFault_cause (v : Cause) : (raiseFault v s).cause = v := (rfl)
@[simp] theorem raiseFault_opa (v : Cause) : (raiseFault v s).opa = s.opa := (rfl)
@[simp] theorem raiseFault_opb (v : Cause) : (raiseFault v s).opb = s.opb := (rfl)
@[simp] theorem raiseFault_res0 (v : Cause) : (raiseFault v s).res0 = s.res0 := (rfl)
@[simp] theorem raiseFault_res1 (v : Cause) : (raiseFault v s).res1 = s.res1 := (rfl)
@[simp] theorem raiseFault_stream (v : Cause) : (raiseFault v s).stream = s.stream := (rfl)
@[simp] theorem raiseFault_lanes (v : Cause) : (raiseFault v s).lanes = s.lanes := (rfl)
@[simp] theorem raiseFault_work (v : Cause) : (raiseFault v s).work = s.work := (rfl)
@[simp] theorem raiseFault_engine (v : Cause) : (raiseFault v s).engine = .start := (rfl)
@[simp] theorem raiseFault_env (v : Cause) : (raiseFault v s).env = s.env := (rfl)

/-! ### complete -/

@[simp] theorem complete_cmd : (complete s).cmd = s.cmd := (rfl)
@[simp] theorem complete_status : (complete s).status = flagsCompleted s.status := (rfl)
@[simp] theorem complete_cause : (complete s).cause = s.cause := (rfl)
@[simp] theorem complete_opa : (complete s).opa = s.opa := (rfl)
@[simp] theorem complete_opb : (complete s).opb = s.opb := (rfl)
@[simp] theorem complete_res0 : (complete s).res0 = s.res0 := (rfl)
@[simp] theorem complete_res1 : (complete s).res1 = s.res1 := (rfl)
@[simp] theorem complete_stream : (complete s).stream = s.stream := (rfl)
@[simp] theorem complete_lanes : (complete s).lanes = s.lanes := (rfl)
@[simp] theorem complete_work : (complete s).work = s.work := (rfl)
@[simp] theorem complete_engine : (complete s).engine = .start := (rfl)
@[simp] theorem complete_env : (complete s).env = s.env := (rfl)

/-! ### clearFault -/

@[simp] theorem clearFault_cmd : (clearFault s).cmd = s.cmd := (rfl)
@[simp] theorem clearFault_status : (clearFault s).status = { s.status with err := false } := (rfl)
@[simp] theorem clearFault_cause : (clearFault s).cause = .noFault := (rfl)
@[simp] theorem clearFault_opa : (clearFault s).opa = s.opa := (rfl)
@[simp] theorem clearFault_opb : (clearFault s).opb = s.opb := (rfl)
@[simp] theorem clearFault_res0 : (clearFault s).res0 = s.res0 := (rfl)
@[simp] theorem clearFault_res1 : (clearFault s).res1 = s.res1 := (rfl)
@[simp] theorem clearFault_stream : (clearFault s).stream = s.stream := (rfl)
@[simp] theorem clearFault_lanes : (clearFault s).lanes = s.lanes := (rfl)
@[simp] theorem clearFault_work : (clearFault s).work = s.work := (rfl)
@[simp] theorem clearFault_engine : (clearFault s).engine = s.engine := (rfl)
@[simp] theorem clearFault_env : (clearFault s).env = s.env := (rfl)

variable (f : Status)

/-! ### flagsIssued -/

@[simp] theorem flagsIssued_busy : (flagsIssued f).busy = true := (rfl)
@[simp] theorem flagsIssued_done : (flagsIssued f).done = false := (rfl)
@[simp] theorem flagsIssued_err : (flagsIssued f).err = f.err := (rfl)
@[simp] theorem flagsIssued_seeded : (flagsIssued f).seeded = f.seeded := (rfl)
@[simp] theorem flagsIssued_ovr : (flagsIssued f).ovr = f.ovr := (rfl)

/-! ### flagsCompleted -/

@[simp] theorem flagsCompleted_busy : (flagsCompleted f).busy = false := (rfl)
@[simp] theorem flagsCompleted_done : (flagsCompleted f).done = true := (rfl)
@[simp] theorem flagsCompleted_err : (flagsCompleted f).err = f.err := (rfl)
@[simp] theorem flagsCompleted_seeded : (flagsCompleted f).seeded = f.seeded := (rfl)
@[simp] theorem flagsCompleted_ovr : (flagsCompleted f).ovr = f.ovr := (rfl)

/-! ### flagsFaulted -/

@[simp] theorem flagsFaulted_busy : (flagsFaulted f).busy = false := (rfl)
@[simp] theorem flagsFaulted_done : (flagsFaulted f).done = false := (rfl)
@[simp] theorem flagsFaulted_err : (flagsFaulted f).err = true := (rfl)
@[simp] theorem flagsFaulted_seeded : (flagsFaulted f).seeded = f.seeded := (rfl)
@[simp] theorem flagsFaulted_ovr : (flagsFaulted f).ovr = f.ovr := (rfl)

/-! ### flagsOverrun -/

@[simp] theorem flagsOverrun_busy : (flagsOverrun f).busy = f.busy := (rfl)
@[simp] theorem flagsOverrun_done : (flagsOverrun f).done = f.done := (rfl)
@[simp] theorem flagsOverrun_err : (flagsOverrun f).err = f.err := (rfl)
@[simp] theorem flagsOverrun_seeded : (flagsOverrun f).seeded = f.seeded := (rfl)
@[simp] theorem flagsOverrun_ovr : (flagsOverrun f).ovr = true := (rfl)

/-! ### flagsSeeded -/

@[simp] theorem flagsSeeded_busy : (flagsSeeded f).busy = f.busy := (rfl)
@[simp] theorem flagsSeeded_done : (flagsSeeded f).done = f.done := (rfl)
@[simp] theorem flagsSeeded_err : (flagsSeeded f).err = f.err := (rfl)
@[simp] theorem flagsSeeded_seeded : (flagsSeeded f).seeded = true := (rfl)
@[simp] theorem flagsSeeded_ovr : (flagsSeeded f).ovr = f.ovr := (rfl)

/-! ### flagsWritten -/

@[simp] theorem flagsWritten_busy (v : Word) : (flagsWritten v f).busy = f.busy := (rfl)
@[simp] theorem flagsWritten_done (v : Word) : (flagsWritten v f).done = f.done := (rfl)
@[simp] theorem flagsWritten_err (v : Word) : (flagsWritten v f).err = (f.err && !v.getLsbD 2) := (rfl)
@[simp] theorem flagsWritten_seeded (v : Word) : (flagsWritten v f).seeded = f.seeded := (rfl)
@[simp] theorem flagsWritten_ovr (v : Word) : (flagsWritten v f).ovr = (f.ovr && !v.getLsbD 4) := (rfl)

end Sys2Proof.Machine
end

