-- ==== Sys2Proof/Laws/Steps.lean ====
section
/-! SUPPORT. What each shared operation and each step can do, said once: later proofs cite these lemmas
instead of unfolding the operation. -/

namespace Sys2Proof.Machine

/-! ### Draws -/

/-- R61: the new stream state is the incremented state. -/
@[simp] theorem nextRaw_snd (p : Params) (st : Word) : (nextRaw p st).2 = st + p.prngInc := rfl

theorem draw_fst (p : Params) (s : State) : (draw p s).1 = (nextRaw p s.stream).1 := rfl

theorem draw_snd (p : Params) (s : State) : (draw p s).2 = setStream (s.stream + p.prngInc) s := rfl

/-- R98: four draws leave everything but the stream as it was. -/
theorem drawFour_snd (p : Params) (s : State) :
    (drawFour p s).2 = setStream (s.stream + p.prngInc + p.prngInc + p.prngInc + p.prngInc) s := rfl

/-! ### Completion -/

theorem completeRes0_eq (v : Word) (s : State) :
    completeRes0 v s = { s with res0 := v, status := flagsCompleted s.status, engine := .start } := rfl

theorem completeBoth_eq (hi lo : Word) (s : State) :
    completeBoth hi lo s =
      { s with res0 := hi, res1 := lo, status := flagsCompleted s.status, engine := .start } := rfl

/-- A completion with one result keeps the second (R22). -/
theorem completeRes0_both (v : Word) (s : State) : completeRes0 v s = completeBoth v s.res1 s := rfl

/-! ### Parameters -/

/-- R18: the range of a signed 64-bit value. -/
@[simp] theorem fitsSigned64_iff (v : Int) : fitsSigned64 v = true ↔ -2 ^ 63 ≤ v ∧ v < 2 ^ 63 := by
  simp [fitsSigned64]

/-- R78: the value where the rule defines one. -/
theorem log2Fix_of_ne_zero (p : Params) (x : Word) (h : x ≠ 0) :
    log2Fix p x = (31 - (clz64 x : Int)) * 2 ^ 32 + asr (log2m p (x <<< clz64 x).toNat) 31 := if_neg h

/-- R14: in a valid build the table has an entry below 10, and nothing past it is read there. -/
theorem lnFactAt_of_tablesOk (p : Params) (h : p.tablesOk = true) (k : Fin 10) :
    ∃ hk : k.val < p.lnFact.length, lnFactAt p k = p.lnFact[k.val] ∧ fitsSigned64 (p.lnFact[k.val]) = true := by
  simp only [Params.tablesOk, Bool.and_eq_true, beq_iff_eq] at h
  have hk : k.val < p.lnFact.length := by omega
  exact ⟨hk, by simp [lnFactAt, hk], List.all_eq_true.mp h.1.2 _ (List.getElem_mem hk)⟩

/-! ### The log-factorial table -/

/-- R14: the default table has its ten entries, whatever stands past them. -/
theorem lnFactAt_default (k : Fin 10) : lnFactAt params k = params.lnFact[k]'k.isLt := by
  fin_cases k <;> rfl

/-! ### The meanings -/

/-- Every meaning answers a next state. -/
theorem exec_answers (i : Instr) (s : State) : ∃ t, exec i s = .next t := by
  cases i with
  | nop => exact ⟨_, rfl⟩
  | next => simp only [exec, execNext, nextWith]; split <;> exact ⟨_, rfl⟩
  | mulhu => exact ⟨_, rfl⟩
  | mulhs => exact ⟨_, rfl⟩
  | mulu => exact ⟨_, rfl⟩
  | muls => exact ⟨_, rfl⟩
  | exp2 => simp only [exec, execExp2, exp2With]; split <;> exact ⟨_, rfl⟩
  | log2n => simp only [exec, execLog2n, log2nWith]; split <;> exact ⟨_, rfl⟩
  | log2 => simp only [exec, execLog2, log2With]; split <;> exact ⟨_, rfl⟩
  | ln => simp only [exec, execLn, lnWith]; split <;> exact ⟨_, rfl⟩
  | sqrt => exact ⟨_, rfl⟩
  | pois => simp only [exec, execPois, poisWith]; split <;> exact ⟨_, rfl⟩

/-- What a meaning other than `POIS` can do: fault with one cause, or complete with new values in the
result registers and, for `NEXT` alone, one draw. -/
theorem exec_simple_cases (i : Instr) (s t : State) (hi : i ≠ .pois) (h : exec i s = .next t) :
    (∃ c, c ≠ .noFault ∧ c ≠ .rateRange ∧ t = raiseFault c s)
    ∨ (∃ r0 r1, t = completeBoth r0 r1 s ∧ (i ≠ .mulu → i ≠ .muls → r1 = s.res1) ∧ (i = .nop → r0 = s.res0))
    ∨ (i = .next ∧ s.status.seeded = true ∧ t = completeRes0 (draw params s).1 (draw params s).2) := by
  cases i with
  | nop => cases h; exact .inr (.inl ⟨s.res0, s.res1, rfl, by simp, by simp⟩)
  | next =>
    simp only [exec, execNext, nextWith] at h
    split at h
    · cases h; exact .inl ⟨_, by simp, by simp, rfl⟩
    · cases h; exact .inr (.inr ⟨rfl, by simp_all, rfl⟩)
  | mulhu => cases h; exact .inr (.inl ⟨_, s.res1, completeRes0_both _ _, by simp, by simp⟩)
  | mulhs => cases h; exact .inr (.inl ⟨_, s.res1, completeRes0_both _ _, by simp, by simp⟩)
  | mulu => cases h; exact .inr (.inl ⟨_, _, rfl, by simp, by simp⟩)
  | muls => cases h; exact .inr (.inl ⟨_, _, rfl, by simp, by simp⟩)
  | exp2 =>
    simp only [exec, execExp2, exp2With] at h
    split at h
    · cases h; exact .inl ⟨_, by simp, by simp, rfl⟩
    · cases h; exact .inr (.inl ⟨_, s.res1, completeRes0_both _ _, by simp, by simp⟩)
  | log2n =>
    simp only [exec, execLog2n, log2nWith] at h
    split at h
    · cases h; exact .inl ⟨_, by simp, by simp, rfl⟩
    · cases h; exact .inr (.inl ⟨_, s.res1, completeRes0_both _ _, by simp, by simp⟩)
  | log2 =>
    simp only [exec, execLog2, log2With] at h
    split at h
    · cases h; exact .inl ⟨_, by simp, by simp, rfl⟩
    · cases h; exact .inr (.inl ⟨_, s.res1, completeRes0_both _ _, by simp, by simp⟩)
  | ln =>
    simp only [exec, execLn, lnWith] at h
    split at h
    · cases h; exact .inl ⟨_, by simp, by simp, rfl⟩
    · cases h; exact .inr (.inl ⟨_, s.res1, completeRes0_both _ _, by simp, by simp⟩)
  | sqrt => cases h; exact .inr (.inl ⟨_, s.res1, completeRes0_both _ _, by simp, by simp⟩)
  | pois => exact absurd rfl hi

/-- R91, R136: what the first step of `POIS` can do. -/
theorem poisStart_cases (p : Params) (s : State) :
    (s.status.seeded = false ∧ poisStart p s = raiseFault .noSeed s)
    ∨ (s.status.seeded = true ∧ p.rateMax < rateOf s ∧ poisStart p s = raiseFault .rateRange s)
    ∨ (s.status.seeded = true ∧ rateOf s ≤ p.rateMax ∧
        ((rateOf s ≤ 0 ∧ poisStart p s = completeRes0 (countWord 0) s)
        ∨ (0 < rateOf s ∧ rateOf s ≤ p.tSmall ∧
            poisStart p s = setEngine .scalar (setWork (scalarOpen p (rateOf s) s.work) s))
        ∨ (0 < rateOf s ∧ p.tSmall < rateOf s ∧ rateOf s ≤ p.tMed ∧
            poisStart p s = setEngine .lanes
              (setLanes { s.lanes with cur := lanesOne } (setWork (lanesOpen p (rateOf s) s.work) s)))
        ∨ (0 < rateOf s ∧ p.tSmall < rateOf s ∧ p.tMed < rateOf s ∧
            poisStart p s = setEngine .ptrs (setWork (ptrsSetup p (rateOf s) s.work) s)))) := by
  unfold poisStart
  split
  · exact .inl ⟨by assumption, rfl⟩
  · rename_i h1
    have h1 : s.status.seeded = true := by simpa using h1
    split
    · exact .inr (.inl ⟨h1, by assumption, rfl⟩)
    · refine .inr (.inr ⟨h1, by omega, ?_⟩)
      split
      · exact .inl ⟨by assumption, rfl⟩
      · split
        · exact .inr (.inl ⟨by omega, by assumption, rfl⟩)
        · split
          · exact .inr (.inr (.inl ⟨by omega, by omega, by assumption, rfl⟩))
          · exact .inr (.inr (.inr ⟨by omega, by omega, by omega, rfl⟩))

/-- R91: one block step of `POIS`, by the position of the sampler. -/
theorem exec_pois_cases (s t : State) (h : exec .pois s = .next t) :
    (s.engine = .start ∧ t = poisStart params s) ∨ (s.engine = .scalar ∧ t = scalarIter params s)
    ∨ (s.engine = .lanes ∧ t = lanesIter params s) ∨ (s.engine = .ptrs ∧ t = ptrsIter params s) := by
  replace h : poisWith params s = .next t := h
  unfold poisWith at h
  split at h
  · exact .inl ⟨by assumption, (Host.Outcome.next.inj h).symm⟩
  · exact .inr (.inl ⟨by assumption, (Host.Outcome.next.inj h).symm⟩)
  · exact .inr (.inr (.inl ⟨by assumption, (Host.Outcome.next.inj h).symm⟩))
  · exact .inr (.inr (.inr ⟨by assumption, (Host.Outcome.next.inj h).symm⟩))

/-- R94: what one iteration of the scalar loop can do. -/
theorem scalarIter_cases (p : Params) (s : State) :
    ∃ w : Work, w = scalarMultiply (nextRaw p s.stream).1 s.work ∧
      ((w.B < 0 ∧ scalarIter p s =
          completeRes0 (countWord s.work.k) (setWork w (setStream (s.stream + p.prngInc) s)))
      ∨ (0 ≤ w.B ∧ scalarIter p s =
          setWork { w with k := s.work.k + 1 } (setStream (s.stream + p.prngInc) s))) := by
  refine ⟨_, rfl, ?_⟩
  by_cases h : (scalarMultiply (nextRaw p s.stream).1 s.work).B < 0
  · exact .inl ⟨h, by unfold scalarIter; exact if_pos h⟩
  · exact .inr ⟨by omega, by unfold scalarIter; exact if_neg h⟩

/-- R102: what one iteration of the 16-lane loop can do. -/
theorem lanesIter_cases (p : Params) (s : State) :
    ∃ x : Snapshot, x = lanesStep s.lanes.cur (drawFour p s).1 ∧
      ∃ t : State, t = setLanes { cur := x, prev := s.lanes.cur }
          (setStream (s.stream + p.prngInc + p.prngInc + p.prngInc + p.prngInc) s) ∧
      ((combinedDigits x s.work.E64 ≤ s.work.n ∧
          lanesIter p s = setWork { s.work with k := s.work.k + 16 } t)
      ∨ ((s.work.n : Int) < combinedDigits x s.work.E64 ∧
          ∃ i : Nat, i = crossingLane s.work.n s.work.E64 { cur := x, prev := s.lanes.cur } ∧
            lanesIter p s = completeRes0 (countWord (s.work.k + i)) t)) := by
  refine ⟨_, rfl, _, rfl, ?_⟩
  by_cases h : combinedDigits (lanesStep s.lanes.cur (drawFour p s).1) s.work.E64 ≤ s.work.n
  · exact .inl ⟨h, by unfold lanesIter; exact if_pos h⟩
  · exact .inr ⟨by omega, _, rfl, by unfold lanesIter; exact if_neg h⟩

/-- The registers that an iteration of R121 leaves alone: those of the set-up (R113), the second uniform once
drawn, and those of the other regimes. -/
def SameSetup (v w : Work) : Prop :=
  v.smu = w.smu ∧ v.b = w.b ∧ v.a = w.a ∧ v.vr = w.vr ∧ v.invAlpha = w.invAlpha ∧ v.vr86 = w.vr86
  ∧ v.lnu = w.lnu ∧ v.n = w.n ∧ v.E64 = w.E64 ∧ v.acc = w.acc ∧ v.B = w.B ∧ v.t = w.t

theorem SameSetup.trans {u v w : Work} (h : SameSetup u v) (g : SameSetup v w) : SameSetup u w := by
  unfold SameSetup at *; simp_all

theorem sameSetup_slow (p : Params) (w : Work) : SameSetup (ptrsSlow p w) w := by
  unfold ptrsSlow ptrsReassign; dsimp only; split <;> exact ⟨rfl, rfl, rfl, rfl, rfl, rfl, rfl, rfl, rfl, rfl, rfl, rfl⟩

/-- R119: the squeeze test writes its own registers only. -/
theorem sameSetup_squeeze (p : Params) (u : Int) (w : Work) :
    SameSetup (ptrsSqueeze p u w).1 w ∧ (ptrsSqueeze p u w).1.k = w.k := by
  unfold ptrsSqueeze; dsimp only; split <;>
    exact ⟨⟨rfl, rfl, rfl, rfl, rfl, rfl, rfl, rfl, rfl, rfl, rfl, rfl⟩, rfl⟩

/-- R118 to R120: deciding a candidate writes the registers of the test only. -/
theorem sameSetup_decide (p : Params) (u : Int) (w : Work) :
    SameSetup (ptrsDecide p u w).1 w ∧ (ptrsDecide p u w).1.k = w.k := by
  unfold ptrsDecide; dsimp only; split
  · exact ⟨(sameSetup_squeeze p u _).1.trans ⟨rfl, rfl, rfl, rfl, rfl, rfl, rfl, rfl, rfl, rfl, rfl, rfl⟩,
      (sameSetup_squeeze p u _).2⟩
  · exact ⟨⟨rfl, rfl, rfl, rfl, rfl, rfl, rfl, rfl, rfl, rfl, rfl, rfl⟩, rfl⟩

/-- R117 to R120: what the slow path can do: reject with the set-up kept, or decide a candidate that is a
32-bit count. -/
theorem ptrsSlowPath_cases (p : Params) (u : Int) (w : Work) :
    SameSetup (ptrsSlowPath p u w).1 w
    ∧ ((ptrsSlowPath p u w).2 = true → 0 ≤ (ptrsSlowPath p u w).1.k ∧ (ptrsSlowPath p u w).1.k < 2 ^ 32) := by
  unfold ptrsSlowPath; dsimp only
  split
  · exact ⟨sameSetup_slow p w, by simp⟩
  · split
    · exact ⟨sameSetup_slow p w, by simp⟩
    · rename_i h
      refine ⟨(sameSetup_decide p u _).1.trans (sameSetup_slow p w), fun _ => ?_⟩
      rw [(sameSetup_decide p u _).2]
      dsimp only
      omega

/-- R121: what one iteration of the PTRS loop can do. -/
theorem ptrsIter_cases (p : Params) (s : State) :
    ∃ w : Work, w = { s.work with V := upperHalf (nextRaw p s.stream).1 } ∧
      ((w.V < w.vr86 ∧ ptrsIter p s =
          completeRes0 (countWord (ptrsFastPath p (s64 s.opa) w).k)
            (setWork (ptrsFastPath p (s64 s.opa) w) (setStream (s.stream + p.prngInc) s)))
      ∨ (w.vr86 ≤ w.V ∧ ∃ r : Work × Bool,
          r = ptrsSlowPath p (s64 s.opa) { w with t := upperHalf (nextRaw p (s.stream + p.prngInc)).1 } ∧
          ptrsIter p s =
            (if r.2 then completeRes0 (countWord r.1.k)
                (setWork r.1 (setStream (s.stream + p.prngInc + p.prngInc) s))
             else setWork r.1 (setStream (s.stream + p.prngInc + p.prngInc) s)))) := by
  refine ⟨_, rfl, ?_⟩
  by_cases h : upperHalf (nextRaw p s.stream).1 < s.work.vr86
  · exact .inl ⟨h, by unfold ptrsIter; exact if_pos h⟩
  · exact .inr ⟨by simpa using h, _, rfl, by unfold ptrsIter; exact if_neg h⟩

/-! ### Moves -/

/-- R60: what a move of the block can do. -/
theorem blockTurn_cases (s t : State) (h : blockTurn s = .next t) :
    (s.status.busy = false ∧ t = s)
    ∨ (s.status.busy = true ∧ ∃ i, decode s.cmd = .ok i ∧ exec i s = .next t)
    ∨ (s.status.busy = true ∧ (∃ r, decode s.cmd = .error r) ∧ t = raiseFault .illegalCmd s) := by
  unfold blockTurn at h
  split at h
  · rename_i hb
    split at h
    · exact .inr (.inl ⟨hb, _, by assumption, h⟩)
    · cases h; exact .inr (.inr ⟨hb, ⟨_, by assumption⟩, rfl⟩)
  · rename_i hb
    cases h; exact .inl ⟨by simpa using hb, rfl⟩

/-- The block's move always answers a next state. -/
theorem blockTurn_answers (s : State) : ∃ t, blockTurn s = .next t := by
  unfold blockTurn
  split
  · split
    · exact exec_answers _ _
    · exact ⟨_, rfl⟩
  · exact ⟨_, rfl⟩

/-- What a host write can do (R44): nothing, one of the five taken writes, or a drop. -/
theorem hostWrite_cases (off : Nat) (v : Word) (s : State) :
    hostWrite off v s = s
    ∨ hostWrite off v s = writeStatus v s
    ∨ (s.status.busy = true ∨ s.status.err = true) ∧ hostWrite off v s = dropWrite s
    ∨ (s.status.busy = false ∧ (hostWrite off v s = setOpa v s ∨ hostWrite off v s = setOpb v s
        ∨ hostWrite off v s = setStatus (flagsSeeded s.status) (setStream v s)))
    ∨ (s.status.busy = false ∧ s.status.err = false ∧ hostWrite off v s = issue v s) := by
  cases hb : s.status.busy <;> cases he : s.status.err <;>
    (unfold hostWrite; split <;> simp [writeStream, writeCmd, hb, he])

/-- What a step can do when it answers a next state. -/
theorem step_cases (s t : State) (h : step s = .next t) :
    (s.env.agenda = [] ∧ blockTurn s = .next t)
    ∨ (∃ rest a, s.env.agenda = .access a :: rest ∧ a.wellFormed = true ∧ t = serveAccess a (setAgenda rest s))
    ∨ (∃ rest, s.env.agenda = .block :: rest ∧ blockTurn (setAgenda rest s) = .next t)
    ∨ (∃ rest, s.env.agenda = .reset :: rest ∧ t = hardReset (setAgenda rest s))
    ∨ (∃ rest, s.env.agenda = .wait :: rest ∧ s.status.busy = true ∧
        blockTurn (setAgenda (.wait :: rest) (hostRead (regOffset .status) s)) = .next t)
    ∨ (∃ rest, s.env.agenda = .wait :: rest ∧ s.status.busy = false ∧
        t = setAgenda rest (hostRead (regOffset .status) s)) := by
  unfold step at h
  split at h
  · exact .inl ⟨by assumption, h⟩
  · rename_i e rest hag
    cases e with
    | access a =>
      simp only [serve] at h
      split at h
      · cases h; exact .inr (.inl ⟨rest, a, hag, by assumption, rfl⟩)
      · cases h
    | block => exact .inr (.inr (.inl ⟨rest, hag, h⟩))
    | reset => simp only [serve] at h; cases h; exact .inr (.inr (.inr (.inl ⟨rest, hag, rfl⟩)))
    | wait =>
      simp only [serve, pollStatus] at h
      split at h
      · exact .inr (.inr (.inr (.inr (.inl ⟨rest, hag, by assumption, h⟩))))
      · rename_i hb
        cases h; exact .inr (.inr (.inr (.inr (.inr ⟨rest, hag, by simpa using hb, rfl⟩))))

end Sys2Proof.Machine
end

