-- ==== Sys2Proof/Tests/Slice0.lean ====
section
/-! SUPPORT. The model's own checks. Expected values are those of the spec (the rule or the table is named at each
group), never the model's own answers. -/

namespace Sys2Proof.Tests

open Sys2Proof Sys2Proof.Machine

/-! ### Helpers -/

/-- One field of a next state. -/
def field {α : Type} (f : State → α) (r : Host.Outcome State Fault Refusal) : Option α :=
  match r with
  | .next t => some (f t)
  | .fault _ | .refused _ => none

/-- Whether the answer is a refusal of an access. -/
def refusesAccess (r : Host.Outcome State Fault Refusal) : Bool :=
  match r with
  | .refused (.notAnAccess _) => true
  | .refused (.notModelled _) | .next _ | .fault _ => false

/-- The state after reset with two operands. -/
def withOperands (a b : Word) : State := { State.reset with opa := a, opb := b }

/-- The state after reset with a seed and one operand. -/
def seededWith (seed a : Word) : State :=
  { State.reset with stream := seed, opa := a, status := { Status.reset with seeded := true } }

/-- The same while a command runs. -/
def runningWith (w seed a : Word) : State :=
  { seededWith seed a with cmd := w, status := { Status.reset with seeded := true, busy := true } }

/-- A state with one schedule entry. -/
def scheduled (e : Event) (s : State) : State := setAgenda [e] s

/-- The seed of the spec's scenario (spec/95_test_vectors.md). -/
def seed : Word := 0x0000011F577D6FBB#64

/-! ### Well-formedness: one ill-formed access for each check (R41) -/

theorem test_access_well_formed : (Access.write 0xF8 8 5#64).wellFormed = true := by decide
theorem test_access_too_narrow : (Access.read 0x10 4).wellFormed = false ∧ (Access.read 0x10 4).wholeWord = false := by
  decide
theorem test_access_misaligned : (Access.read 0x14 8).wellFormed = false ∧ (Access.read 0x14 8).aligned = false := by
  decide
theorem test_access_out_of_range :
    (Access.write 0x100 8 0#64).wellFormed = false ∧ (Access.write 0x100 8 0#64).inRange = false := by decide
theorem test_event_ill_formed : (Event.access (.read 0x10 1)).wellFormed = false ∧ Event.wait.wellFormed = true := by
  decide
theorem test_step_refuses_narrow : refusesAccess (step (scheduled (.access (.read 0x10 4)) State.reset)) = true := by
  decide
theorem test_step_refuses_misaligned :
    refusesAccess (step (scheduled (.access (.write 0x24 8 1#64)) State.reset)) = true := by decide
theorem test_step_refuses_out_of_range :
    refusesAccess (step (scheduled (.access (.read 0x100 8)) State.reset)) = true := by decide

/-! ### Decoding: every command word written as its fields, `rsv` then `opcode` (R50, R52) -/

theorem test_decode_nop : decode (0#56 ++ 0b00000000#8) = .ok .nop := by decide
theorem test_decode_next : decode (0#56 ++ 0b00000001#8) = .ok .next := by decide
theorem test_decode_mulhu : decode (0#56 ++ 0b00010000#8) = .ok .mulhu := by decide
theorem test_decode_mulhs : decode (0#56 ++ 0b00010001#8) = .ok .mulhs := by decide
theorem test_decode_mulu : decode (0#56 ++ 0b00010010#8) = .ok .mulu := by decide
theorem test_decode_muls : decode (0#56 ++ 0b00010011#8) = .ok .muls := by decide
theorem test_decode_exp2 : decode (0#56 ++ 0b00100000#8) = .ok .exp2 := by decide
theorem test_decode_log2n : decode (0#56 ++ 0b00100001#8) = .ok .log2n := by decide
theorem test_decode_log2 : decode (0#56 ++ 0b00100010#8) = .ok .log2 := by decide
theorem test_decode_ln : decode (0#56 ++ 0b00100011#8) = .ok .ln := by decide
theorem test_decode_sqrt : decode (0#56 ++ 0b00100100#8) = .ok .sqrt := by decide
theorem test_decode_pois : decode (0#56 ++ 0b00110000#8) = .ok .pois := by decide
/-- The illegal words of spec/95_test_vectors.md, family 60. -/
theorem test_decode_illegal :
    decode 0x99#64 = .error .unknownOpcode ∧ decode 0x100#64 = .error .reservedBits
      ∧ decode 0x8000000000000001#64 = .error .reservedBits ∧ decode 0x101#64 = .error .reservedBits := by decide
/-- R42: the byte at the lowest address carries bits 7:0. -/
theorem test_decode_bytes :
    decodeBytes [0x30#8, 0#8, 0#8, 0#8, 0#8, 0#8, 0#8, 0#8] = .ok .pois
      ∧ decodeBytes [0#8, 0#8, 0#8, 0#8, 0#8, 0#8, 0#8, 0x30#8] = .error .reservedBits
      ∧ decodeBytes [0x30#8] = .error .notOneWord := by decide
theorem test_table_word : decodeTableWord 64 0x24 = some .sqrt ∧ decodeTableWord 64 0x25 = none := by decide

/-! ### The commands (spec/95_test_vectors.md Part 2) -/

theorem test_nop_done : field State.status (exec .nop (runningWith 0x00#64 5#64 7#64))
    = some ⟨false, true, false, true, false⟩ := by decide
theorem test_next_output :
    field State.res0 (exec .next (seededWith seed 0#64)) = some 0xD13CA81C55C7D190#64 := by decide
theorem test_next_wraps :
    field State.stream (exec .next (seededWith 0xFFFFFFFFFFFFFFFF#64 0#64)) = some 0x60BEE2BEE120FC14#64 := by decide
theorem test_mulhu_high :
    field State.res0 (exec .mulhu (withOperands 0x123456789ABCDEF0#64 0xFEDCBA9876543210#64))
      = some 0x121FA00AD77D7422#64 := by decide
theorem test_mulhu_keeps_res1 :
    field State.res1 (exec .mulhu { withOperands 3#64 0xFFFFFFFFFFFFFFFF#64 with res1 := 9#64 }) = some 9#64 := by
  decide
theorem test_mulhs_negative :
    field State.res0 (exec .mulhs (withOperands 0x123456789ABCDEF0#64 0xFEDCBA9876543210#64))
      = some 0xFFEB49923CC09532#64 := by decide
theorem test_mulhs_least :
    field State.res0 (exec .mulhs (withOperands 0x8000000000000000#64 0x8000000000000000#64))
      = some 0x4000000000000000#64 := by decide
theorem test_mulu_low :
    field (fun t => (t.res0, t.res1)) (exec .mulu (withOperands 0xFFFFFFFFFFFFFFFF#64 0xFFFFFFFFFFFFFFFF#64))
      = some (0xFFFFFFFFFFFFFFFE#64, 1#64) := by decide
theorem test_muls_mixed_signs :
    field (fun t => (t.res0, t.res1)) (exec .muls (withOperands 3#64 0xFFFFFFFFFFFFFFFF#64))
      = some (0xFFFFFFFFFFFFFFFF#64, 0xFFFFFFFFFFFFFFFD#64) := by decide
theorem test_muls_least :
    field (fun t => (t.res0, t.res1)) (exec .muls (withOperands 0x8000000000000000#64 0xFFFFFFFFFFFFFFFF#64))
      = some (0#64, 0x8000000000000000#64) := by decide
theorem test_exp2_half :
    field State.res0 (exec .exp2 (withOperands 0x80000000#64 0#64)) = some 0xB504F4FE#64 := by decide
theorem test_exp2_domain :
    field State.cause (exec .exp2 (withOperands 0x100000000#64 0#64)) = some .domain := by decide
theorem test_log2n_low_side :
    field State.res0 (exec .log2n (withOperands 0xB504F333F9DE6484#64 0#64)) = some 0x3FFFFFFF42845CBC#64 := by decide
theorem test_log2n_high_side :
    field State.res0 (exec .log2n (withOperands 0xB504F333F9DE6485#64 0#64)) = some 0x40000000BD7BA340#64 := by decide
theorem test_log2_three :
    field State.res0 (exec .log2 (withOperands 3#64 0#64)) = some 0xFFFFFFE195C01A39#64 := by decide
theorem test_log2_zero : field State.cause (exec .log2 (withOperands 0#64 0#64)) = some .domain := by decide
theorem test_ln_ten :
    field State.res0 (exec .ln (withOperands 0xA00000000#64 0#64)) = some 0x24D763775#64 := by decide
theorem test_ln_below_one :
    field State.res0 (exec .ln (withOperands 0xFFFFFFFF#64 0#64)) = some 0xFFFFFFFFFFFFFFFE#64 := by decide
theorem test_sqrt_nine :
    field State.res0 (exec .sqrt (withOperands 0x900000000#64 0#64)) = some 0x2FFFFFFEC#64 := by decide
theorem test_sqrt_special :
    field State.res0 (exec .sqrt (withOperands 0x4000000000000000#64 0#64)) = some 0x800000000000#64 := by decide
/-- R96, iteration 2: the forced odd product normalised. -/
theorem test_pois_scalar_iteration :
    field (fun t => (t.work.acc, t.work.B, t.work.k))
      (exec .pois { runningWith 0x30#64 0x60BEE3DE389E6BD0#64 0xA00000000#64 with
        engine := .scalar, work := { Work.reset with acc := 0x8CA5EEA6A777A35B#64, B := 14, k := 1 } })
      = some (0xFDD48D1A9E983EF8#64, 11, 2) := by decide
/-- R125 (b): the fast path, the registers as R113 gives them for a rate of 50. -/
theorem test_pois_ptrs_fast :
    field State.res0
      (exec .pois { runningWith 0x30#64 0xC17DC69D19BF67E5#64 0x3200000000#64 with
        engine := .ptrs,
        work := { Work.reset with
          smu := 0x712318007, b := 0x12D2200D21, a := 0x6887B147, vr := 0xB65C698A,
          invAlpha := 0x132862234, vr86 := 0x9CD49834, lnu := 0x3E97A56F5 } })
      = some 51#64 := by decide

/-! ### Parts of the samplers -/

/-- R13, R18: a constant of 2^31 is outside Q32.32. -/
theorem test_ptrs_constants :
    params.ptrsOk = true ∧ { params with cB1 := 2 ^ 63 }.ptrsOk = false
      ∧ { params with cTwo := -2 ^ 63 - 1 }.ptrsOk = false := by decide
/-- R14, R18: an entry of 2^31 is outside Q32.32, and nine entries are too few. -/
theorem test_tables :
    params.tablesOk = true ∧ { params with lnFact := List.replicate 10 (2 ^ 63) }.tablesOk = false
      ∧ { params with lnFact := List.replicate 9 0 }.tablesOk = false
      ∧ { params with rateMax := 2 ^ 63 }.tablesOk = false := by decide

/-- R9: a coefficient with bit 63 set is negative in Q3.61. -/
theorem test_log2_coefficients :
    params.log2Ok = true ∧ { params with log2K7 := 0x8000000000000000#64 }.log2Ok = false
      ∧ { params with log2K3 := 0#64 }.log2Ok = false := by decide

/-- R93, the rate 10. -/
theorem test_digits : digitBudget 0xA00000000 = 14 ∧ startMantissa params 0xA00000000 = 0xAC15048F00000000#64 := by
  decide
/-- R98, R104: lane 0 of the first batch. -/
theorem test_lane_step : laneStep ⟨0x8000#16, 0xFFFF#16⟩ 0xD190#16 = ⟨0xD191#16, 0#16⟩ := by decide
/-- R99, R104: an initial lane adds one digit to the fold. -/
theorem test_fold_step : (foldStep (0xE758598300000000#64, 0) ⟨0x8000#16, 0xFFFF#16⟩).2 = 1 := by decide
/-- R104: the combined digits after the first batch for the rate 20. -/
theorem test_batch_digits :
    combinedDigits (lanesStep lanesOne #v[0xD13CA81C55C7D190#64, 0x39C03FCC9480A37B#64,
      0x58BE37631FFBF8B9#64, 0x51A72A19CD1E35D7#64]) 0xE758598300000000#64 = 22 := by decide +kernel
/-- R113, the rate 50. -/
theorem test_ptrs_setup :
    ((ptrsSetup params 0x3200000000 Work.reset).b, (ptrsSetup params 0x3200000000 Work.reset).vr86)
      = (0x12D2200D21, 0x9CD49834) := by decide
/-- R126 (a): a candidate below 10, accepted. -/
theorem test_ptrs_small_accepted :
    (ptrsSlowPath params 0x1100000000
      { ptrsSetup params 0x1100000000 Work.reset with V := 0x7C8B0127, t := 0x013BB109 }).2 = true := by decide

/-! ### Host accesses (spec/95_test_vectors.md family 60) -/

theorem test_write_clears_both :
    field State.status (step (scheduled (.access (.write 0x10 8 0x14#64))
      { State.reset with cause := .noSeed, status := ⟨false, false, true, false, true⟩ }))
      = some Status.reset := by decide
theorem test_stream_dropped_while_busy :
    field (fun t => statusWord t.status) (step (scheduled (.access (.write 0x40 8 1#64))
      { State.reset with status := ⟨true, false, false, false, false⟩ })) = some 0x11#64 := by decide
theorem test_placed_word_runs :
    field State.res0 (step ((withOperands 3#64 0x8000000000000000#64).withFetchWord 64 0x10)) = some 1#64 := by decide
theorem test_placed_illegal_word : field State.cause (step (State.reset.withFetchWord 64 0x99)) = some .illegalCmd := by
  decide

/-! ### Witnesses: a concrete state and operands that meet the hypotheses of each statement, each clause at
its boundary values -/

theorem test_witness_decode_and_encode :
    Instr.pois.wellFormed = true ∧ decode 0x30#64 = .ok .pois := by decide

theorem test_witness_bridge_bytes : 0 < 8 ∧ 7 < 8 := by decide

/-- `BlockStepRunsDecodedCommand`, its three schedules. -/
theorem test_witness_block_step :
    Instr.pois.wellFormed = true ∧ (runningWith 0x30#64 seed 1#64).status.busy = true
      ∧ decode (runningWith 0x30#64 seed 1#64).cmd = .ok .pois
      ∧ (runningWith 0x30#64 seed 1#64).env.agenda = []
      ∧ (scheduled .block (runningWith 0x30#64 seed 1#64)).env.agenda = .block :: []
      ∧ (scheduled .wait (runningWith 0x30#64 seed 1#64)).env.agenda = .wait :: [] := by decide

theorem test_witness_idle :
    State.reset.status.busy = false ∧ State.reset.env.agenda = []
      ∧ (scheduled .block State.reset).env.agenda = .block :: [] := by decide

/-- `IllegalWordFaults`: the last opcode that is none, and the first words with a reserved bit. -/
theorem test_witness_illegal_word :
    (256 ≤ (0xFF#64).toNat ∨ (0xFF#64).toNat % 256 ∉
        [0x00, 0x01, 0x10, 0x11, 0x12, 0x13, 0x20, 0x21, 0x22, 0x23, 0x24, 0x30])
      ∧ 256 ≤ (0x100#64).toNat ∧ 256 ≤ (0xFFFFFFFFFFFFFFFF#64).toNat
      ∧ (scheduled (.access (.write 0x08 8 0xFF#64)) State.reset).env.agenda = [.access (.write 0x08 8 0xFF#64)]
      ∧ (scheduled (.access (.write 0x08 8 0xFF#64)) State.reset).status = Status.reset := by decide

/-- `HostWritesFollowTheirTable`, `HostReadsFollowTheirTable`: every row of the table, the reserved offsets at
both ends; and both sides of each condition. -/
theorem test_witness_port_offsets :
    (∀ off ∈ [0x00, 0x08, 0x10, 0x18, 0x20, 0x28, 0x30, 0x38, 0x40, 0x48, 0xF8], off % 8 = 0 ∧ off ≤ 0xF8)
      ∧ (∀ off ∈ [0x10, 0x20, 0x28, 0x40], off ∈ [0x10, 0x20, 0x28, 0x40])
      ∧ (runningWith 0x30#64 seed 1#64).status.busy = true ∧ State.reset.status.busy = false := by decide

/-- `ScheduleEntriesAreServed`: the last offset served, and one access refused for each condition. -/
theorem test_witness_schedule_entries :
    (scheduled (.access (.read 0xF8 8)) State.reset).env.agenda = .access (.read 0xF8 8) :: []
      ∧ ((Access.read 0xF8 8).width = 8 ∧ (Access.read 0xF8 8).offset % 8 = 0 ∧ (Access.read 0xF8 8).offset ≤ 0xF8)
      ∧ (Access.read 0xF8 7).width ≠ 8 ∧ (Access.read 0xF7 8).offset % 8 ≠ 0 ∧ 0xF8 < (Access.read 0xF9 8).offset
      ∧ (scheduled .reset State.reset).env.agenda = .reset :: [] := by decide

theorem test_witness_running :
    (runningWith 0x30#64 seed 1#64).status.busy = true
      ∧ (∀ off ∈ [0x08, 0x20, 0x28, 0x40], (Access.write off 8 5#64).wellFormed = true)
      ∧ (Access.read 0x30 8).wellFormed = true := by decide

/-- A running command is coherent: the hypotheses of `PollingDoesNotChangeTheCommand`. -/
theorem test_witness_polling :
    Coherent (runningWith 0x30#64 seed 1#64) ∧ (runningWith 0x30#64 seed 1#64).status.busy = true
      ∧ (Access.read 0x10 8).wellFormed = true := ⟨⟨by decide, by decide, trivial⟩, by decide, by decide⟩

theorem test_witness_reset_lists :
    0x40 ∈ [0x08, 0x10, 0x18, 0x20, 0x28, 0x30, 0x38, 0x40] ∧ Instr.pois ∈ [Instr.next, Instr.pois] := by decide

theorem test_witness_fault_outstanding :
    let s : State := { State.reset with cause := .domain, status := { Status.reset with err := true } }
    s.status.err = true ∧ s.status.busy = false
      ∧ (0x4#64).getLsbD 2 = true ∧ (0x4#64).getLsbD 4 = false := by decide

/-- `CommandsWriteOnlyTheirResults`: each of its conditions on the command holds of some command that
answers. -/
theorem test_witness_commands_write :
    (∃ t, exec .sqrt (withOperands 2#64 0#64) = .next t) ∧ Instr.sqrt ≠ .mulu ∧ Instr.sqrt ≠ .muls
      ∧ Instr.sqrt ≠ .next ∧ Instr.sqrt ≠ .pois ∧ (∃ t, exec .nop State.reset = .next t) :=
  ⟨⟨_, rfl⟩, by decide, by decide, by decide, by decide, ⟨_, rfl⟩⟩

theorem test_witness_fault_taken :
    ∃ t, blockTurn (runningWith 0x99#64 seed 1#64) = .next t ∧ (runningWith 0x99#64 seed 1#64).status.err = false
      ∧ t.status.err = true := ⟨_, rfl, rfl, rfl⟩

theorem test_witness_simple_command : Instr.sqrt ≠ .pois := by decide

/-- `NextDrawsOnce`, its two clauses. -/
theorem test_witness_next : (seededWith seed 0#64).status.seeded = true ∧ State.reset.status.seeded = false := by
  decide

theorem test_witness_unseeded :
    State.reset.status.seeded = false ∧ State.reset.engine = .start
      ∧ Instr.next ∈ [Instr.next, Instr.pois] ∧ Instr.pois ∈ [Instr.next, Instr.pois] := by decide

theorem test_witness_stream_moves : (runningWith 0x30#64 seed 1#64).env.agenda = [] := by decide

/-- `StreamHasFullPeriod`: the default build, one draw, and the most draws that do not come back. -/
theorem test_witness_full_period : params.streamOk = true ∧ 0 < 1 ∧ 0 < 2 ^ 64 - 1 ∧ 2 ^ 64 - 1 < 2 ^ 64 := by
  decide +kernel

/-- `MultiplierKeepsItsLaws`: the operands of each clause. -/
theorem test_witness_multiplier :
    (0xFFFFFFFFFFFFFFFF#64).getLsbD 63 = (0x8000000000000000#64).getLsbD 63
      ∧ (0x8000000000000000#64).getLsbD 63 ≠ (2#64).getLsbD 63 ∧ (0x8000000000000000#64) ≠ 0 ∧ (2#64) ≠ 0
      ∧ |(0x8000000000000000#64).toInt * (2#64).toInt| ≤ 2 ^ 64 ∧ ((0#64) = 0 ∨ (5#64) = 0) := by decide

/-- The domains of `EXP2`, `LOG2N`, `LOG2` and `LN`, and the first operands outside them. -/
theorem test_witness_domains :
    (withOperands 0xFFFFFFFF#64 0#64).opa.toNat < 2 ^ 32 ∧ 2 ^ 32 ≤ (withOperands 0x100000000#64 0#64).opa.toNat
      ∧ 2 ^ 63 ≤ (withOperands 0x8000000000000000#64 0#64).opa.toNat
      ∧ (withOperands 0x7FFFFFFFFFFFFFFF#64 0#64).opa.toNat < 2 ^ 63
      ∧ (withOperands 1#64 0#64).opa ≠ 0 ∧ (withOperands 0#64 0#64).opa = 0
      ∧ (withOperands 0x100000000#64 0#64).opa = 0x100000000#64 := by decide

theorem test_witness_exp2_range : params.exp2Ok = true ∧ 2 ^ 32 - 1 < 2 ^ 32 := by decide

theorem test_witness_mantissa :
    2 ^ 63 ≤ 2 ^ 63 ∧ 2 ^ 63 < 2 ^ 64 ∧ 2 ^ 63 ≤ 2 ^ 64 - 1 ∧ 2 ^ 64 - 1 < 2 ^ 64 := by decide

/-- `SqrtOfPowersOfFourIsExact`: the least and the greatest power of four. -/
theorem test_witness_powers_of_four :
    (1#64) ≠ 0 ∧ ((1#64).toNat : Int) * 2 ^ sqrtShift 1#64 = 2 ^ 62
      ∧ (0x4000000000000000#64) ≠ 0
      ∧ ((0x4000000000000000#64).toNat : Int) * 2 ^ sqrtShift 0x4000000000000000#64 = 2 ^ 62 := by decide

theorem test_witness_non_positive_rate :
    (runningWith 0x30#64 seed 0#64).engine = .start ∧ (runningWith 0x30#64 seed 0#64).status.seeded = true
      ∧ (runningWith 0x30#64 seed 0#64).opa = 0
      ∧ (runningWith 0x30#64 seed 0x8000000000000000#64).opa.getLsbD 63 = true := by decide

/-- `RateCeilingFaults`: the build of spec/95_test_vectors.md with a ceiling, and any `POIS` of the default
build. -/
theorem test_witness_rate_ceiling :
    (runningWith 0x30#64 seed 0x100000000001#64).engine = .start
      ∧ (runningWith 0x30#64 seed 0x100000000001#64).status.seeded = true
      ∧ { params with rateMax := 0x100000000000 }.rateMax < (runningWith 0x30#64 seed 0x100000000001#64).opa.toInt
      ∧ (runningWith 0x30#64 seed 1#64).cause ≠ .rateRange := by decide

theorem test_witness_pois_answers : ∃ t, exec .pois (runningWith 0x30#64 seed 1#64) = .next t := ⟨_, rfl⟩

/-- `RateSelectsTheEngine`: the least rate, each threshold and the rate above it, and the greatest rate. -/
theorem test_witness_engine_choice :
    (0 < (0x1#64).toInt ∧ (0x2600000001#64).toInt ≤ params.rateMax)
      ∧ (0 < (0x7FFFFFFFFFFFFFFF#64).toInt ∧ (0x7FFFFFFFFFFFFFFF#64).toInt ≤ params.rateMax)
      ∧ (0x1200000000#64).toInt ≤ params.tSmall ∧ params.tSmall < (0x1200000001#64).toInt
      ∧ (0x2600000000#64).toInt ≤ params.tMed ∧ params.tSmall < (0x2600000001#64).toInt
      ∧ params.tMed < (0x2600000001#64).toInt
      ∧ (runningWith 0x30#64 seed 1#64).engine = .start ∧ (runningWith 0x30#64 seed 1#64).status.seeded = true := by
  decide +kernel

theorem test_witness_digits : (0 : Int) < 1 ∧ 1 ≤ params.tMed ∧ 0 < params.tMed ∧ params.tMed ≤ params.tMed := by
  decide

/-- A state in which the loop of each engine is open. -/
theorem test_witness_open_loops :
    field State.engine (exec .pois (runningWith 0x30#64 seed 0xA00000000#64)) = some .scalar
      ∧ field State.engine (exec .pois (runningWith 0x30#64 seed 0x1400000000#64)) = some .lanes
      ∧ field State.engine (exec .pois (runningWith 0x30#64 seed 0x3200000000#64)) = some .ptrs := by decide

/-- The first row `0x1` of the table of `POIS` (spec/95_test_vectors.md): result 0, one draw. -/
theorem test_witness_scalar_run : (poisScalar params 1 1 seed).map Prod.fst = some 0 := by decide +kernel

/-- The row of the rate 20: the first result is 26. -/
theorem test_witness_lanes_run : (poisVector params 2 0x1400000000 seed).map Prod.fst = some 26 := by decide +kernel

theorem test_witness_lane :
    ({ a := 0x8000#16, d := 0x7FEF#16 } : Lane).a.getLsbD 15 = true
      ∧ ({ a := 0x8000#16, d := 0x7FEF#16 } : Lane).d.toInt ≤ 32751 := by decide

theorem test_witness_fold :
    (0x8000000000000000#64).getLsbD 63 = true ∧ (∀ j : Fin 16, lanesOne[j].a.getLsbD 15 = true)
      ∧ ({ a := 0x8000#16, d := 0xFFFF#16 } : Lane).a.getLsbD 15 = true := by decide

theorem test_witness_lookback :
    ((0 : Nat) : Int) < combinedDigits (Vector.replicate 16 ⟨0x8000#16, 0#16⟩) 0x8000000000000000#64 := by
  decide +kernel

/-- `PtrsFastPathReturns` and `PtrsSlowPathDecidesByItsTests`, the rate 50 and the two streams of R125. -/
theorem test_witness_ptrs_paths :
    (((nextRaw params 0xC17DC69D19BF67E5#64).1.toNat : Int) / 2 ^ 32 < 0x9CD49834)
      ∧ ((0x9CD49834 : Int) ≤ ((nextRaw params seed).1.toNat / 2 ^ 32 : Nat)) := by decide

/-- `SlowPathKeepsUsNonNegative`: both sub-cases of R117, and `t` at both ends. -/
theorem test_witness_slow_path :
    let w : Work := { Work.reset with vr := 0xB65C698A, V := 0xD13CA81C, t := 2 ^ 32 - 1 }
    let x : Work := { Work.reset with vr := 1, V := 0, t := 0 }
    (0 < w.vr ∧ 0 ≤ w.V ∧ 0 ≤ w.t ∧ w.t < 2 ^ 32) ∧ (0 < x.vr ∧ 0 ≤ x.V ∧ 0 ≤ x.t ∧ x.t < 2 ^ 32) := by decide

theorem test_witness_squeeze : 10 ≤ ({ Work.reset with k := 10 } : Work).k := by decide

theorem test_witness_small_candidates :
    ({ Work.reset with k := 0 } : Work).k = (0 : Fin 10).val ∧ ({ Work.reset with k := 9 } : Work).k = (9 : Fin 10).val := by
  decide

/-- `PoisRunComputesTheEngineFunction`: its hypotheses, and a case of each of its two clauses. -/
theorem test_witness_pois_run :
    let s := runningWith 0x30#64 seed 1#64
    (s.env.agenda = [] ∧ s.status.busy = true ∧ s.cmd = encode .pois ∧ s.engine = .start ∧ s.status.seeded = true)
      ∧ (poisFunction params 1 s.opa.toInt s.stream).isSome = true
      ∧ poisFunction params 0 s.opa.toInt s.stream = none := by decide +kernel

/-- The state after the first block step of `POIS`. -/
def opened (rate : Word) : State :=
  match exec .pois (runningWith 0x30#64 seed rate) with
  | .next t => t
  | .fault _ | .refused _ => State.reset

/-- `EveryStepKeepsCoherence`: a coherent state for each position of the sampler, and that it steps. -/
theorem test_witness_coherent_start :
    Coherent (runningWith 0x30#64 seed 0x1400000000#64)
      ∧ ∃ t, step (runningWith 0x30#64 seed 0x1400000000#64) = .next t := ⟨⟨by decide, by decide, trivial⟩, ⟨_, rfl⟩⟩

theorem test_witness_coherent_scalar : Coherent (opened 0xA00000000#64) ∧ ∃ t, step (opened 0xA00000000#64) = .next t :=
  ⟨⟨by decide, by decide, rfl, rfl, rfl, by decide +kernel⟩, ⟨_, rfl⟩⟩

theorem test_witness_coherent_lanes :
    Coherent (opened 0x1400000000#64) ∧ ∃ t, step (opened 0x1400000000#64) = .next t :=
  ⟨⟨by decide, by decide, rfl, rfl, rfl, by decide +kernel⟩, ⟨_, rfl⟩⟩

theorem test_witness_coherent_ptrs :
    Coherent (opened 0x3200000000#64) ∧ ∃ t, step (opened 0x3200000000#64) = .next t :=
  ⟨⟨by decide, by decide, rfl, rfl, rfl, by decide +kernel⟩, ⟨_, rfl⟩⟩

theorem test_witness_alike : Alike State.reset { State.reset with work := { Work.reset with n := 7, V := -1 } } :=
  ⟨rfl, rfl, rfl, rfl, rfl, rfl, rfl, rfl, rfl, rfl, trivial⟩

end Sys2Proof.Tests
end

/-! PROOFS. The scope family: the default parameter record keeps the constraints of spec/00_scope.md R7 to R15.
One fact per group of constants, so that a proof that needs one group cites it alone. -/

namespace Sys2Proof.Proofs.Scope

open Sys2Proof.Machine

/-- The whole constraint on a record is the six constraints on its groups. -/
theorem valid_iff (p : Params) :
    p.valid = true ↔
      p.streamOk = true ∧ p.exp2Ok = true ∧ p.log2Ok = true ∧ p.thresholdsOk = true ∧ p.ptrsOk = true
        ∧ p.tablesOk = true := by
  simp only [Params.valid, Bool.and_eq_true, and_assoc]

/-- R7, for the default stream constants. -/
theorem params_streamOk : params.streamOk = true := by decide

/-- R8, for the default coefficients: the largest value of each Horner step (R72) fits 64 bits. -/
theorem params_exp2Ok : params.exp2Ok = true := by decide

/-- R9, for the default coefficients. -/
theorem params_log2Ok : params.log2Ok = true := by decide

/-- R11, for the default thresholds, 18 and 38 in Q32.32. -/
theorem params_thresholdsOk : params.thresholdsOk = true := by decide

/-- R13 and R18, for the default PTRS constants. -/
theorem params_ptrsOk : params.ptrsOk = true := by decide

/-- R14 and R15, for the default table and ceiling, which is the largest signed 64-bit value. -/
theorem params_tablesOk : params.tablesOk = true := by decide

/-- Settles O60: each group of the default record keeps its constraint. -/
theorem defaultParametersAreValid : Obligations.DefaultParametersAreValid :=
  (valid_iff params).mpr
    ⟨params_streamOk, params_exp2Ok, params_log2Ok, params_thresholdsOk, params_ptrsOk, params_tablesOk⟩

end Sys2Proof.Proofs.Scope

/-! PROOFS. What reset leaves and what the status registers read (spec/10_state.md R24, R25, R33). -/

namespace Sys2Proof.Proofs.ResetValues

open Sys2Proof.Machine

/-! ### Flags as bits -/

/-- A flag shown in bit `k` of a word is that bit, and the others are 0. -/
theorem getLsbD_flag (b : Bool) (k i : Nat) (hk : k < 64) :
    (if b then BitVec.twoPow 64 k else 0).getLsbD i = (b && decide (i = k)) := by
  cases b with
  | false => simp
  | true => simp [BitVec.getLsbD_twoPow, hk, eq_comm]

/-- R24: the word as the union of its five bits. -/
theorem statusWord_eq (f : Status) :
    statusWord f =
      (if f.busy then BitVec.twoPow 64 0 else 0) ||| (if f.done then BitVec.twoPow 64 1 else 0)
        ||| (if f.err then BitVec.twoPow 64 2 else 0) ||| (if f.seeded then BitVec.twoPow 64 3 else 0)
        ||| (if f.ovr then BitVec.twoPow 64 4 else 0) := rfl

/-- Settles O12: each bit index has its flag, and the five codes are those of the table of R131. -/
theorem statusAndCauseBits : Obligations.StatusAndCauseBits := by
  refine ⟨fun f i => ?_, rfl, rfl, rfl, rfl, rfl⟩
  simp only [statusWord_eq, BitVec.getLsbD_or, getLsbD_flag, Nat.reduceLT]
  match i with
  | 0 | 1 | 2 | 3 | 4 => simp
  | _ + 5 => simp

/-! ### Reads of an idle block -/

/-- R40: only the offset 0 holds `ID`. -/
theorem regAt_ne_id {off : Nat} (h : off ≠ 0) : regAt off ≠ some .id := by
  intro hid
  have := List.find?_some hid
  simp [regOffset] at this
  omega

/-- R43: while the block is idle a read returns what the register holds, and 0 where there is none. -/
theorem readValue_of_idle {s : State} (h : s.status.busy = false) (off : Nat) :
    readValue off s = ((regAt off).map (regValue · s)).getD 0 := by
  unfold readValue readsUnspecified
  cases regAt off <;> simp [h]

/-! ### The state after reset -/

/-- R33: every register but `ID` holds 0. -/
theorem regValue_hardReset (s : State) {r : Reg} (h : r ≠ .id) : regValue r (hardReset s) = 0 := by
  cases r with
  | id => exact absurd rfl h
  | status => exact (by decide : statusWord Status.reset = 0)
  | cmd | cause | opa | opb | res0 | res1 | stream => rfl

/-- R33, R40: after reset every offset but that of `ID` reads 0, the reserved ones included. -/
theorem readValue_hardReset (s : State) {off : Nat} (h : off ≠ 0) : readValue off (hardReset s) = 0 := by
  rw [readValue_of_idle rfl]
  cases hr : regAt off with
  | none => rfl
  | some r => exact regValue_hardReset s fun hid => regAt_ne_id h (hid ▸ hr)

/-- R27: `ID` reads its constant. -/
theorem readValue_id_hardReset (s : State) : readValue 0x00 (hardReset s) = 0x0000000152565043#64 := by
  rw [readValue_of_idle rfl]; rfl

/-- R133: the commands that draw fault on a block without a seed, before any of their work. -/
theorem exec_unseeded {i : Instr} (hi : i ∈ [Instr.next, Instr.pois]) {s : State}
    (hseed : s.status.seeded = false) (hstart : s.engine = .start) :
    exec i s = .next (raiseFault .noSeed s) := by
  simp only [List.mem_cons, List.not_mem_nil, or_false] at hi
  obtain rfl | rfl := hi
  · exact if_pos hseed
  · simp only [exec, execPois, poisWith, hstart, poisStart, if_pos hseed]

/-- Settles O16: reset writes the constants of R33, so that what is read is what is written, and the idle,
unseeded block faults or stays. -/
theorem resetRestoresEveryRegister : Obligations.ResetRestoresEveryRegister := by
  intro s t
  have hreads : ∀ off ∈ [0x08, 0x10, 0x18, 0x20, 0x28, 0x30, 0x38, 0x40], readValue off t = 0 :=
    fun off hoff => readValue_hardReset s fun h0 => by simp [h0] at hoff
  have hfaults : ∀ i ∈ [Instr.next, Instr.pois], AnswersAs (exec i t) { t with
      cause := .noSeed, status := { t.status with err := true } } :=
    fun i hi => ⟨_, exec_unseeded hi rfl rfl, rfl⟩
  exact ⟨rfl, rfl, rfl, rfl, rfl, rfl, rfl, rfl, readValue_id_hardReset s, hreads, hfaults, rfl, rfl⟩

/-- Settles O17: the reset state is what reset makes of itself. -/
theorem resetStateReads : Obligations.ResetStateReads :=
  ⟨readValue_id_hardReset State.reset, fun i => readValue_hardReset State.reset (by omega)⟩

/-- Settles O58: no flag is set and no loop is open. -/
theorem resetIsCoherent : Obligations.ResetIsCoherent := ⟨by decide, by decide, trivial⟩

end Sys2Proof.Proofs.ResetValues

/-! PROOFS. The frame of the commands: what none of the twelve writes (spec/10_state.md R21, R22, R26). -/

namespace Sys2Proof.Proofs.CommandFrame

open Sys2Proof.Machine

/-- What no command writes. -/
structure SameInputs (t s : State) : Prop where
  cmd : t.cmd = s.cmd
  opa : t.opa = s.opa
  opb : t.opb = s.opb
  env : t.env = s.env
  seeded : t.status.seeded = s.status.seeded
  ovr : t.status.ovr = s.status.ovr

/-- R91: the first step of `POIS` writes no input and not `RES1`. -/
theorem poisStart_frame (p : Params) (s : State) :
    SameInputs (poisStart p s) s ∧ (poisStart p s).res1 = s.res1 := by
  obtain ⟨-, h⟩ | ⟨-, -, h⟩ | ⟨-, -, ⟨-, h⟩ | ⟨-, -, h⟩ | ⟨-, -, -, h⟩ | ⟨-, -, -, h⟩⟩ := poisStart_cases p s <;>
    (rw [h]; exact ⟨⟨rfl, rfl, rfl, rfl, rfl, rfl⟩, rfl⟩)

/-- R94: an iteration of the scalar loop writes no input and not `RES1`. -/
theorem scalarIter_frame (p : Params) (s : State) :
    SameInputs (scalarIter p s) s ∧ (scalarIter p s).res1 = s.res1 := by
  obtain ⟨w, -, ⟨-, h⟩ | ⟨-, h⟩⟩ := scalarIter_cases p s <;>
    (rw [h]; exact ⟨⟨rfl, rfl, rfl, rfl, rfl, rfl⟩, rfl⟩)

/-- R102: an iteration of the 16-lane loop writes no input and not `RES1`. -/
theorem lanesIter_frame (p : Params) (s : State) :
    SameInputs (lanesIter p s) s ∧ (lanesIter p s).res1 = s.res1 := by
  obtain ⟨x, -, t, rfl, ⟨-, h⟩ | ⟨-, i, -, h⟩⟩ := lanesIter_cases p s <;>
    (rw [h]; exact ⟨⟨rfl, rfl, rfl, rfl, rfl, rfl⟩, rfl⟩)

/-- R121: an iteration of the PTRS loop writes no input and not `RES1`. -/
theorem ptrsIter_frame (p : Params) (s : State) :
    SameInputs (ptrsIter p s) s ∧ (ptrsIter p s).res1 = s.res1 := by
  obtain ⟨w, -, ⟨-, h⟩ | ⟨-, ⟨v, accepted⟩, -, h⟩⟩ := ptrsIter_cases p s
  · rw [h]; exact ⟨⟨rfl, rfl, rfl, rfl, rfl, rfl⟩, rfl⟩
  · cases accepted <;> (rw [h]; exact ⟨⟨rfl, rfl, rfl, rfl, rfl, rfl⟩, rfl⟩)

/-- R91: a block step of `POIS` writes no input and not `RES1`. -/
theorem exec_pois_frame {s t : State} (h : exec .pois s = .next t) : SameInputs t s ∧ t.res1 = s.res1 := by
  obtain ⟨-, rfl⟩ | ⟨-, rfl⟩ | ⟨-, rfl⟩ | ⟨-, rfl⟩ := exec_pois_cases s t h
  · exact poisStart_frame params s
  · exact scalarIter_frame params s
  · exact lanesIter_frame params s
  · exact ptrsIter_frame params s

/-- Settles O19: `POIS` by its four positions, every other command by the three things it can do. -/
theorem commandsWriteOnlyTheirResults : Obligations.CommandsWriteOnlyTheirResults := by
  intro i s t h
  by_cases hi : i = .pois
  · subst hi
    obtain ⟨⟨hcmd, hopa, hopb, henv, hseeded, hovr⟩, hres1⟩ := exec_pois_frame h
    exact ⟨hcmd, hopa, hopb, henv, hseeded, hovr, fun _ _ => hres1, fun _ h => absurd rfl h,
      fun h => absurd rfl h, nofun⟩
  · obtain ⟨c, -, -, rfl⟩ | ⟨r0, r1, rfl, hr1, hr0⟩ | ⟨rfl, -, rfl⟩ := exec_simple_cases i s t hi h
    · exact ⟨rfl, rfl, rfl, rfl, rfl, rfl, fun _ _ => rfl, fun _ _ => rfl, fun _ => ⟨rfl, rfl⟩, fun _ => rfl⟩
    · exact ⟨rfl, rfl, rfl, rfl, rfl, rfl, hr1, fun _ _ => rfl, fun _ => ⟨rfl, rfl⟩, hr0⟩
    · simp [completeRes0, draw_snd]

end Sys2Proof.Proofs.CommandFrame

/-! PROOFS. Numbers the samplers keep normalised: the top bit of a shifted word, the lanes of a batch, and the
digits of a rate (spec/43_poisson_digit.md R93 to R102, spec/42_elementary.md R72). -/

namespace Sys2Proof.Proofs.Normalised

open Sys2Proof.Machine

/-! ### The top bit -/

theorem getLsbD_top_iff {w : Nat} (x : BitVec (w + 1)) : x.getLsbD w = true ↔ 2 ^ w ≤ x.toNat := by
  have h := BitVec.msb_eq_decide x
  rw [BitVec.msb_eq_getLsbD_last] at h
  simpa using congrArg (· = true) h

/-- A number shifted by its leading zeros has its top bit set. -/
theorem getLsbD_shiftLeft_log2 {w : Nat} {x : BitVec (w + 1)} (h : x ≠ 0) :
    (x <<< (w - x.toNat.log2)).getLsbD w = true := by
  have hx : x.toNat ≠ 0 := fun h0 => h (BitVec.eq_of_toNat_eq h0)
  have hlog : x.toNat.log2 < w + 1 := (Nat.log2_lt hx).mpr x.isLt
  have hsub : w - (w - x.toNat.log2) = x.toNat.log2 := by omega
  have hbit : x.getLsbD x.toNat.log2 = true := Nat.testBit_log2 hx
  simp [hsub, hbit]

/-- R94: a word other than 0, shifted by its leading zeros. -/
theorem getLsbD_shiftLeft_clz64 {m : Word} (h : m ≠ 0) : (m <<< clz64 m).getLsbD 63 = true := by
  rw [clz64, if_neg h]; exact getLsbD_shiftLeft_log2 h

/-- R98: a 32-bit product other than 0, shifted by its leading zeros. -/
theorem getLsbD_shiftLeft_clz32 {q : BitVec 32} (h : q ≠ 0) : (q <<< clz32 q).getLsbD 31 = true := by
  rw [clz32, if_neg h]; exact getLsbD_shiftLeft_log2 h

/-- A number of at least `2^k` has at most `31 - k` leading zeros in 32 bits. -/
theorem clz32_le {q : BitVec 32} {k : Nat} (h : 2 ^ k ≤ q.toNat) : clz32 q ≤ 31 - k := by
  have hpos : 0 < 2 ^ k := Nat.two_pow_pos k
  have hne : q ≠ 0 := fun h0 => by simp [h0] at h
  have hlog : k ≤ q.toNat.log2 := (Nat.le_log2 (by omega)).mpr h
  rw [clz32, if_neg hne]; omega

/-! ### The scalar accumulator -/

/-- A word forced odd is not 0. -/
theorem or_one_ne_zero {w : Nat} (x : BitVec (w + 1)) : x ||| 1 ≠ 0 := fun h => by
  simpa using congrArg (·.getLsbD 0) h

/-- R94: a multiplication does not write the digits of the rate. -/
@[simp] theorem scalarMultiply_n (r : Word) (w : Work) : (scalarMultiply r w).n = w.n := (rfl)
@[simp] theorem scalarMultiply_E64 (r : Word) (w : Work) : (scalarMultiply r w).E64 = w.E64 := (rfl)

/-- R94: the accumulator is normalised after each multiplication. -/
theorem getLsbD_scalarMultiply_acc (r : Word) (w : Work) : (scalarMultiply r w).acc.getLsbD 63 = true :=
  getLsbD_shiftLeft_clz64 (or_one_ne_zero _)

/-- R94: a multiplication never gives digits back. -/
theorem scalarMultiply_B_le (r : Word) (w : Work) : (scalarMultiply r w).B ≤ w.B := by
  simp only [scalarMultiply]; omega

/-! ### One lane -/

/-- The 32-bit product of a lane's step (R98). -/
def laneProduct (l : Lane) (u : BitVec 16) : BitVec 32 := l.a.setWidth 32 * (u ||| 1#16).setWidth 32

/-- R98, on the product. -/
theorem laneStep_eq (l : Lane) (u : BitVec 16) :
    laneStep l u =
      { a := (laneProduct l u <<< clz32 (laneProduct l u)).extractLsb' 16 16
        d := l.d + BitVec.ofNat 16 (clz32 (laneProduct l u)) } := rfl

/-- The product is exact: 32 bits hold it. -/
theorem laneProduct_toNat (l : Lane) (u : BitVec 16) :
    (laneProduct l u).toNat = l.a.toNat * (u ||| 1#16).toNat := by
  have hlt : l.a.toNat * (u ||| 1#16).toNat < 2 ^ 32 :=
    Nat.mul_lt_mul'' (c := 2 ^ 16) (d := 2 ^ 16) l.a.isLt (u ||| 1#16).isLt
  have ha : l.a.toNat < 2 ^ 32 := l.a.isLt.trans (by decide)
  have hu : (u ||| 1#16).toNat < 2 ^ 32 := (u ||| 1#16).isLt.trans (by decide)
  rw [laneProduct, BitVec.toNat_mul, BitVec.toNat_setWidth, BitVec.toNat_setWidth, Nat.mod_eq_of_lt ha,
    Nat.mod_eq_of_lt hu, Nat.mod_eq_of_lt hlt]

/-- A normalised mantissa times an odd uniform keeps at least the mantissa's magnitude. -/
theorem le_laneProduct {l : Lane} (ha : l.a.getLsbD 15 = true) (u : BitVec 16) :
    2 ^ 15 ≤ (laneProduct l u).toNat := by
  have hodd : (u ||| 1#16).toNat ≠ 0 := fun h0 => or_one_ne_zero u (BitVec.eq_of_toNat_eq h0)
  calc 2 ^ 15 ≤ l.a.toNat := (getLsbD_top_iff l.a).mp ha
    _ ≤ l.a.toNat * (u ||| 1#16).toNat := Nat.le_mul_of_pos_right _ (Nat.pos_of_ne_zero hodd)
    _ = (laneProduct l u).toNat := (laneProduct_toNat l u).symm

/-- R29, R98: a lane's mantissa stays normalised. -/
theorem getLsbD_laneStep_a {l : Lane} (ha : l.a.getLsbD 15 = true) (u : BitVec 16) :
    (laneStep l u).a.getLsbD 15 = true := by
  have hne : laneProduct l u ≠ 0 := fun h0 => by simpa [h0] using le_laneProduct ha u
  simpa [laneStep_eq, BitVec.getLsbD_extractLsb'] using getLsbD_shiftLeft_clz32 hne

/-- R98: while a lane's count is far from the end of its 16 bits it never goes down: at most 16 digits are
added, and the sum does not wrap. -/
theorem le_laneStep_d {l : Lane} (ha : l.a.getLsbD 15 = true) (hlow : -1 ≤ l.d.toInt)
    (hhigh : l.d.toInt ≤ 32751) (u : BitVec 16) : l.d.toInt ≤ (laneStep l u).d.toInt := by
  have hc : clz32 (laneProduct l u) ≤ 31 - 15 := clz32_le (le_laneProduct ha u)
  rw [laneStep_eq]
  generalize clz32 (laneProduct l u) = c at hc
  have hcNat : (BitVec.ofNat 16 c).toNat = c := by rw [BitVec.toNat_ofNat]; omega
  have hcInt : (BitVec.ofNat 16 c).toInt = c := by rw [BitVec.toInt_eq_toNat_of_lt (by omega), hcNat]
  rw [BitVec.toInt_add, hcInt, Int.bmod_eq_of_le (by omega) (by omega)]
  omega

/-! ### A batch -/

theorem lanesStep_getElem (x : Snapshot) (w : Vector Word 4) (j : Fin 16) :
    (lanesStep x w)[j] = laneStep x[j] (laneUniform w j) := by
  simp [lanesStep]

/-- R99: the sum of the digit counts, over the lanes' indices. -/
theorem laneDigits_eq_sum (x : Snapshot) : laneDigits x = ∑ j : Fin 16, x[j].d.toInt := by
  have hx : x.toList = List.ofFn fun j : Fin 16 => x[j] := by
    rw [← Vector.toList_ofFn]; exact congrArg _ Vector.ofFn_getElem.symm
  rw [laneDigits, hx, List.map_ofFn, List.sum_ofFn]; rfl

/-- When no lane is below −1, one lane is above the sum by at most 15. -/
theorem lane_le_of_laneDigits_le {n : Nat} {x : Snapshot} (hlow : ∀ j : Fin 16, -1 ≤ x[j].d.toInt)
    (hsum : laneDigits x ≤ n) (j : Fin 16) : x[j].d.toInt ≤ n + 15 := by
  have hone : x[j].d.toInt + 1 ≤ ∑ i : Fin 16, (x[i].d.toInt + 1) :=
    Finset.single_le_sum (f := fun i : Fin 16 => x[i].d.toInt + 1)
      (fun i _ => by have := hlow i; omega) (Finset.mem_univ j)
  rw [Finset.sum_add_distrib, ← laneDigits_eq_sum] at hone
  have hcard : ∑ _i : Fin 16, (1 : Int) = 16 := by simp
  omega

/-- R99: the fold only adds digits. -/
theorem laneDigits_le_combinedDigits (x : Snapshot) (E64 : Word) : laneDigits x ≤ combinedDigits x E64 := by
  simp only [combinedDigits]; omega

/-- R97: before the first batch every lane holds the value 1, with −1 digits. -/
theorem lanesHeld_lanesOne (n : Nat) : lanesHeld n lanesOne := by
  have hlane : ∀ j : Fin 16, lanesOne[j].a.getLsbD 15 = true ∧ -1 ≤ lanesOne[j].d.toInt := by decide
  have hsum : laneDigits lanesOne ≤ 0 := by decide
  exact ⟨fun j => (hlane j).1, fun j => (hlane j).2, by omega⟩

/-- R98, R100: a batch that stays within a small budget keeps the lanes as the loop wants them. -/
theorem lanesHeld_lanesStep {n : Nat} {x : Snapshot} (w : Vector Word 4) (hn : n ≤ 32736) (h : lanesHeld n x)
    (hsum : laneDigits (lanesStep x w) ≤ n) : lanesHeld n (lanesStep x w) := by
  obtain ⟨ha, hlow, hold⟩ := h
  refine ⟨fun j => ?_, fun j => ?_, hsum⟩
  · rw [lanesStep_getElem]; exact getLsbD_laneStep_a (ha j) _
  · have hhigh := lane_le_of_laneDigits_le hlow hold j
    rw [lanesStep_getElem]
    exact (hlow j).trans (le_laneStep_d (ha j) (hlow j) (by omega) _)

/-! ### The digits of a rate -/

theorem hornerStep_mono {a a' X X' : Nat} (ha : a ≤ a') (hX : X ≤ X') (c : Word) :
    hornerStep a X c ≤ hornerStep a' X' c :=
  Nat.add_le_add_right (Nat.div_le_div_right (Nat.mul_le_mul ha hX)) _

/-- R72: the evaluation is non-decreasing in the operand. -/
theorem expAcc_mono (p : Params) {x y : Nat} (h : x ≤ y) : expAcc p x ≤ expAcc p y := by
  have hX : x * 2 ^ 32 ≤ y * 2 ^ 32 := Nat.mul_le_mul_right _ h
  exact hornerStep_mono (hornerStep_mono (hornerStep_mono (hornerStep_mono le_rfl hX _) hX _) hX _) hX _

/-- R72: under R8 the result of `exp2_fix` is a normalised 32-bit value. -/
theorem expFix_range {p : Params} (hp : p.exp2Ok = true) {x : Nat} (hx : x < 2 ^ 32) :
    2 ^ 31 ≤ expFix p x ∧ expFix p x < 2 ^ 32 := by
  simp only [Params.exp2Ok, Bool.and_eq_true, decide_eq_true_eq, List.all_eq_true] at hp
  obtain ⟨hC0, htop⟩ := hp
  have hlast : expAcc p (2 ^ 32 - 1) < 2 ^ 64 := htop _ (by simp [Params.hornerTop, expAcc, hornerStep])
  have hhigh : expAcc p x < 2 ^ 64 := (expAcc_mono p (by omega)).trans_lt hlast
  have hlow : 2 ^ 63 ≤ expAcc p x := hC0.trans (Nat.le_add_left _ _)
  unfold expFix
  omega

/-- R93: the starting mantissa is normalised. -/
theorem getLsbD_startMantissa {p : Params} (hp : p.exp2Ok = true) (rate : Int) :
    (startMantissa p rate).getLsbD 63 = true := by
  obtain ⟨hlow, hhigh⟩ := expFix_range hp (BitVec.ofInt 32 (rateDigits rate)).isLt
  rw [getLsbD_top_iff (w := 63), startMantissa, BitVec.toNat_ofNat, Nat.mod_eq_of_lt (by omega)]
  omega

/-- R93: the digit budget of a rate up to 38, the default `T_MED`. -/
theorem digitBudget_le {rate : Int} (h : rate ≤ params.tMed) : digitBudget rate ≤ 54 := by
  have h38 : rate ≤ 38 * 2 ^ 32 := h
  simp only [digitBudget, rateDigits, asr, log2eQ62]
  omega

end Sys2Proof.Proofs.Normalised

/-! PROOFS. Every step keeps the invariant of the machine: the block's moves, engine by engine, then what the host
does at the port (spec/10_state.md R24, R25, R29; spec/43_poisson_digit.md R95, R102; spec/44_poisson_ptrs.md
R113). -/

namespace Sys2Proof.Proofs.Coherence

open Sys2Proof.Machine Sys2Proof.Proofs.Scope Sys2Proof.Proofs.Normalised

/-! ### The invariant, position by position -/

theorem coherent_start_iff {s : State} (h : s.engine = .start) :
    Coherent s ↔ flagsExclusive s.status ∧ causeMatches s := by
  simp only [Coherent, engineOk, h, and_true]

theorem coherent_scalar_iff {s : State} (h : s.engine = .scalar) :
    Coherent s ↔ flagsExclusive s.status ∧ causeMatches s ∧ s.status.busy = true ∧ s.cmd = encode .pois
      ∧ s.status.seeded = true ∧ scalarOpenOk s := by
  simp only [Coherent, engineOk, h]

theorem coherent_lanes_iff {s : State} (h : s.engine = .lanes) :
    Coherent s ↔ flagsExclusive s.status ∧ causeMatches s ∧ s.status.busy = true ∧ s.cmd = encode .pois
      ∧ s.status.seeded = true ∧ lanesOpenOk s := by
  simp only [Coherent, engineOk, h]

theorem coherent_ptrs_iff {s : State} (h : s.engine = .ptrs) :
    Coherent s ↔ flagsExclusive s.status ∧ causeMatches s ∧ s.status.busy = true ∧ s.cmd = encode .pois
      ∧ s.status.seeded = true ∧ ptrsOpenOk s := by
  simp only [Coherent, engineOk, h]

/-- An idle block has no sampler loop open. -/
theorem engine_of_idle {s : State} (hs : Coherent s) (hidle : s.status.busy = false) : s.engine = .start := by
  obtain ⟨-, -, hengine⟩ := hs
  cases he : s.engine <;> simp_all [engineOk]

/-- R135: a fault leaves a coherent state, whatever was there before. -/
theorem coherent_raiseFault {c : Cause} (hc : c ≠ .noFault) (s : State) : Coherent (raiseFault c s) :=
  (coherent_start_iff (raiseFault_engine s c)).mpr (by simp [flagsExclusive, causeMatches, hc])

/-- R60: the completion of a running command is coherent, in a state that has the flags and the cause as they
were. -/
theorem coherent_completeBoth {s u : State} (hs : Coherent s) (hbusy : s.status.busy = true)
    (hstatus : u.status = s.status) (hcause : u.cause = s.cause) (hi lo : Word) :
    Coherent (completeBoth hi lo u) := by
  obtain ⟨⟨-, hnoErr, -⟩, hmatch, -⟩ := hs
  have herr : s.status.err = false := by simpa [hbusy] using hnoErr
  refine (coherent_start_iff (complete_engine _)).mpr ?_
  simpa [completeBoth, flagsExclusive, causeMatches, hstatus, hcause, herr] using hmatch

theorem coherent_completeRes0 {s u : State} (hs : Coherent s) (hbusy : s.status.busy = true)
    (hstatus : u.status = s.status) (hcause : u.cause = s.cause) (v : Word) : Coherent (completeRes0 v u) :=
  coherent_completeBoth hs hbusy hstatus hcause v u.res1

/-! ### The registers of a regime -/

/-- R93: the digits of a rate are loaded when their two registers hold them. -/
theorem loadDigits_eq_self_iff (p : Params) (rate : Int) (w : Work) :
    loadDigits p rate w = w ↔ digitBudget rate = w.n ∧ startMantissa p rate = w.E64 := by
  cases w; simp [loadDigits]

/-- R113: the set-up of a rate is kept by whatever keeps its seven registers. -/
theorem ptrsSetup_eq_self {p : Params} {u : Int} {v w : Work} (hw : ptrsSetup p u w = w) (h : SameSetup v w) :
    ptrsSetup p u v = v := by
  obtain ⟨hsmu, hb, ha, hvr, hia, hvr86, hlnu, -⟩ := h
  cases v; cases w
  subst hsmu hb ha hvr hia hvr86 hlnu
  simpa [ptrsSetup] using hw

/-- R113: the two uniforms are no set-up registers. -/
theorem ptrsSetup_drawn {p : Params} {u : Int} {w : Work} (hw : ptrsSetup p u w = w) (V t : Int) :
    ptrsSetup p u { w with V := V, t := t } = { w with V := V, t := t } :=
  congrArg (fun v : Work => { v with V := V, t := t }) hw

/-! ### The command word of POIS -/

/-- R50: a word is its two fields. -/
theorem eq_of_fields {w v : Word} (hrsv : rsvField w = rsvField v) (hop : opcodeField w = opcodeField v) :
    w = v := by
  have hrsv' := congrArg BitVec.toNat hrsv
  have hop' := congrArg BitVec.toNat hop
  simp only [rsvField, opcodeField, BitVec.extractLsb'_toNat, Nat.shiftRight_eq_div_pow] at hrsv' hop'
  exact BitVec.eq_of_toNat_eq (by omega)

/-- R52: `POIS` stands in the opcode map once. -/
theorem lookup_eq_pois : ∀ op : BitVec 8, opcodeMap.lookup op = some .pois → op = opcodeField (encode .pois) := by
  decide

/-- R51, R52: the one word that decodes to `POIS`. -/
theorem eq_encode_pois_of_decode {w : Word} (h : decode w = .ok .pois) : w = encode .pois := by
  unfold decode at h
  split at h
  · cases h
  · rename_i hrsv
    split at h
    · rename_i i hlookup
      cases h
      exact eq_of_fields ((not_not.mp hrsv).trans (by decide)) (lookup_eq_pois _ hlookup)
    · cases h

/-! ### The block's moves -/

/-- R91, R93, R97, R113: the loop that the first step opens holds its invariant. -/
theorem poisStart_coherent {s : State} (hs : Coherent s) (hbusy : s.status.busy = true)
    (hcmd : s.cmd = encode .pois) : Coherent (poisStart params s) := by
  obtain ⟨-, h⟩ | ⟨-, -, h⟩ | ⟨hseed, -, hcase⟩ := poisStart_cases params s
  · rw [h]; exact coherent_raiseFault (by decide) s
  · rw [h]; exact coherent_raiseFault (by decide) s
  have ⟨hflags, hcause, _⟩ := hs
  obtain ⟨-, h⟩ | ⟨hlow, hhigh, h⟩ | ⟨-, hlow, hhigh, h⟩ | ⟨-, -, hlow, h⟩ := hcase
  · rw [h]; exact coherent_completeRes0 hs hbusy (by simp) (by simp) _
  · have hacc := getLsbD_startMantissa params_exp2Ok (rateOf s)
    rw [h]
    exact (coherent_scalar_iff rfl).mpr ⟨hflags, hcause, hbusy, hcmd, hseed, hlow, hhigh, rfl, hacc,
      Int.natCast_nonneg _, le_rfl, le_rfl⟩
  · rw [h]
    exact (coherent_lanes_iff rfl).mpr ⟨hflags, hcause, hbusy, hcmd, hseed, hlow, hhigh, rfl,
      lanesHeld_lanesOne _, le_rfl, rfl⟩
  · rw [h]
    exact (coherent_ptrs_iff rfl).mpr ⟨hflags, hcause, hbusy, hcmd, hseed, hlow, rfl⟩

/-- R94, R95: a scalar iteration that goes round again: the digits stay, the accumulator is normalised and the
balance is not used up. -/
theorem coherent_scalar_again {s : State} (hs : Coherent s) (he : s.engine = .scalar) {w : Work} (st : Word)
    (hn : w.n = s.work.n) (hE : w.E64 = s.work.E64) (hacc : w.acc.getLsbD 63 = true) (hB : 0 ≤ w.B)
    (hle : w.B ≤ s.work.B) (hk : w.k = s.work.k + 1) : Coherent (setWork w (setStream st s)) := by
  obtain ⟨hflags, hcause, hbusy, hcmd, hseed, hlow, hhigh, hdigits, -, -, hBn, hk0⟩ := (coherent_scalar_iff he).mp hs
  have hdigits' : loadDigits params (rateOf s) w = w := by
    rw [loadDigits_eq_self_iff, hn, hE]; exact (loadDigits_eq_self_iff _ _ _).mp hdigits
  have hBn' : w.B ≤ w.n := by omega
  have hk0' : 0 ≤ w.k := by omega
  have he' : (setWork w (setStream st s)).engine = .scalar := he
  exact (coherent_scalar_iff he').mpr
    ⟨hflags, hcause, hbusy, hcmd, hseed, hlow, hhigh, hdigits', hacc, hB, hBn', hk0'⟩

/-- R94, R95: an iteration of the scalar loop. -/
theorem scalarIter_coherent {s : State} (hs : Coherent s) (he : s.engine = .scalar) :
    Coherent (scalarIter params s) := by
  obtain ⟨-, -, hbusy, -⟩ := (coherent_scalar_iff he).mp hs
  obtain ⟨w, hw, ⟨-, h⟩ | ⟨hB, h⟩⟩ := scalarIter_cases params s
  · rw [h]; exact coherent_completeRes0 hs hbusy (by simp) (by simp) _
  · have hn : w.n = s.work.n := by rw [hw, scalarMultiply_n]
    have hE : w.E64 = s.work.E64 := by rw [hw, scalarMultiply_E64]
    have hacc : w.acc.getLsbD 63 = true := by rw [hw, getLsbD_scalarMultiply_acc]
    have hle : w.B ≤ s.work.B := by rw [hw]; exact scalarMultiply_B_le _ _
    rw [h]
    exact coherent_scalar_again hs he _ hn hE hacc hB hle rfl

/-- R102: a 16-lane iteration that goes round again. -/
theorem coherent_lanes_again {s : State} (hs : Coherent s) (he : s.engine = .lanes) {l : LaneFile} (st : Word)
    (hl : lanesHeld s.work.n l.cur) :
    Coherent (setWork { s.work with k := s.work.k + 16 } (setLanes l (setStream st s))) := by
  have he' : (setWork { s.work with k := s.work.k + 16 } (setLanes l (setStream st s))).engine = .lanes := he
  obtain ⟨hflags, hcause, hbusy, hcmd, hseed, hlow, hhigh, hdigits, -, hk, hk16⟩ := (coherent_lanes_iff he).mp hs
  have hdigits' : loadDigits params (rateOf s) { s.work with k := s.work.k + 16 } =
      { s.work with k := s.work.k + 16 } := congrArg (fun v : Work => { v with k := s.work.k + 16 }) hdigits
  have hk' : 0 ≤ s.work.k + 16 := by omega
  have hk16' : (s.work.k + 16) % 16 = 0 := by omega
  exact (coherent_lanes_iff he').mpr
    ⟨hflags, hcause, hbusy, hcmd, hseed, hlow, hhigh, hdigits', hl, hk', hk16'⟩

/-- R98 to R102: an iteration of the 16-lane loop. A batch that stays in the loop is within the budget, which is
small enough that no lane's count wraps. -/
theorem lanesIter_coherent {s : State} (hs : Coherent s) (he : s.engine = .lanes) :
    Coherent (lanesIter params s) := by
  obtain ⟨-, -, hbusy, -, -, -, hhigh, hdigits, hlanes, -⟩ := (coherent_lanes_iff he).mp hs
  obtain ⟨x, rfl, t, rfl, ⟨hin, h⟩ | ⟨-, i, -, h⟩⟩ := lanesIter_cases params s
  · obtain ⟨hn, -⟩ := (loadDigits_eq_self_iff _ _ _).mp hdigits
    have hbudget : s.work.n ≤ 32736 := hn ▸ (digitBudget_le hhigh).trans (by decide)
    rw [h]
    exact coherent_lanes_again hs he _
      (lanesHeld_lanesStep _ hbudget hlanes ((laneDigits_le_combinedDigits _ _).trans hin))
  · rw [h]; exact coherent_completeRes0 hs hbusy (by simp) (by simp) _

/-- R121: a PTRS iteration that goes round again holds the set-up registers as they were. -/
theorem coherent_ptrs_again {s : State} (hs : Coherent s) (he : s.engine = .ptrs) {v w : Work} (st : Word)
    (hv : ptrsSetup params (rateOf s) v = v) (hw : SameSetup w v) : Coherent (setWork w (setStream st s)) := by
  obtain ⟨hflags, hcause, hbusy, hcmd, hseed, hlow, -⟩ := (coherent_ptrs_iff he).mp hs
  have he' : (setWork w (setStream st s)).engine = .ptrs := he
  exact (coherent_ptrs_iff he').mpr ⟨hflags, hcause, hbusy, hcmd, hseed, hlow, ptrsSetup_eq_self hv hw⟩

/-- R121: an iteration of the PTRS loop. -/
theorem ptrsIter_coherent {s : State} (hs : Coherent s) (he : s.engine = .ptrs) :
    Coherent (ptrsIter params s) := by
  obtain ⟨-, -, hbusy, -, -, -, hsetup⟩ := (coherent_ptrs_iff he).mp hs
  obtain ⟨w, rfl, ⟨-, h⟩ | ⟨-, r, rfl, h⟩⟩ := ptrsIter_cases params s
  · rw [h]; exact coherent_completeRes0 hs hbusy (by simp) (by simp) _
  · rw [h]
    split
    · exact coherent_completeRes0 hs hbusy (by simp) (by simp) _
    · exact coherent_ptrs_again hs he _ (ptrsSetup_drawn hsetup _ _) (ptrsSlowPath_cases params (s64 s.opa) _).1

/-- R60: a block step of a running command. -/
theorem exec_coherent {i : Instr} {s t : State} (hs : Coherent s) (hbusy : s.status.busy = true)
    (hcmd : i = .pois → s.cmd = encode .pois) (h : exec i s = .next t) : Coherent t := by
  by_cases hi : i = .pois
  · obtain ⟨-, rfl⟩ | ⟨he, rfl⟩ | ⟨he, rfl⟩ | ⟨he, rfl⟩ := exec_pois_cases s t (hi ▸ h)
    · exact poisStart_coherent hs hbusy (hcmd hi)
    · exact scalarIter_coherent hs he
    · exact lanesIter_coherent hs he
    · exact ptrsIter_coherent hs he
  · obtain ⟨c, hc, -, rfl⟩ | ⟨r0, r1, rfl, -, -⟩ | ⟨-, -, rfl⟩ := exec_simple_cases i s t hi h
    · exact coherent_raiseFault hc s
    · exact coherent_completeBoth hs hbusy rfl rfl r0 r1
    · exact coherent_completeRes0 hs hbusy (by simp [draw_snd]) (by simp [draw_snd]) _

/-- R60: a move of the block. -/
theorem blockTurn_coherent {s t : State} (hs : Coherent s) (h : blockTurn s = .next t) : Coherent t := by
  obtain ⟨-, rfl⟩ | ⟨hbusy, i, hdecode, hexec⟩ | ⟨-, -, rfl⟩ := blockTurn_cases s t h
  · exact hs
  · exact exec_coherent hs hbusy (fun hi => eq_encode_pois_of_decode (hi ▸ hdecode)) hexec
  · exact coherent_raiseFault (by decide) s

/-! ### The host's moves -/

/-- The model's bookkeeping has no part in the invariant. -/
theorem coherent_setEnv_iff (e : Env) (s : State) : Coherent (setEnv e s) ↔ Coherent s := Iff.rfl

/-- What the host was told, and what it will do next, has no part in the invariant. -/
theorem coherent_hostRead {s : State} (hs : Coherent s) (off : Nat) : Coherent (hostRead off s) :=
  (coherent_setEnv_iff _ s).mpr hs

theorem coherent_setAgenda {s : State} (hs : Coherent s) (l : List Event) : Coherent (setAgenda l s) :=
  (coherent_setEnv_iff { s.env with agenda := l } s).mpr hs

/-- A change of flags and cause that leaves `BUSY` and `SEEDED` does not touch the sampler. -/
theorem engineOk_setStatus {s : State} {f : Status} (h : engineOk s) (hbusy : f.busy = s.status.busy)
    (hseed : f.seeded = s.status.seeded) : engineOk (setStatus f s) := by
  cases he : s.engine <;> simp only [engineOk, he, setStatus_engine] at h ⊢
  all_goals
    obtain ⟨hb, hcmd, hs, hopen⟩ := h
    exact ⟨hbusy.trans hb, hcmd, hseed.trans hs, hopen⟩

/-- R44: a dropped write. -/
theorem coherent_dropWrite {s : State} (hs : Coherent s) : Coherent (dropWrite s) := by
  obtain ⟨hflags, hcause, hengine⟩ := hs
  exact ⟨hflags, hcause, engineOk_setStatus hengine rfl rfl⟩

/-- R24, R44: a write of `STATUS` clears `ERR` and `CAUSE` together. -/
theorem coherent_writeStatus {s : State} (hs : Coherent s) (v : Word) : Coherent (writeStatus v s) := by
  obtain ⟨hflags, hcause, hengine⟩ := hs
  have hengine' : engineOk (setStatus (flagsWritten v s.status) s) := engineOk_setStatus hengine rfl rfl
  refine ⟨?_, ?_, hengine'⟩
  · cases hv : v.getLsbD 2 <;> simp_all [flagsExclusive, writeStatus]
  · cases hv : v.getLsbD 2 <;> simp_all [causeMatches, writeStatus, causeWritten]

/-- R44: a host write, taken or dropped. -/
theorem coherent_hostWrite {s : State} (hs : Coherent s) (off : Nat) (v : Word) : Coherent (hostWrite off v s) := by
  have ⟨hflags, hcause, _⟩ := hs
  obtain h | h | ⟨-, h⟩ | ⟨hidle, h⟩ | ⟨-, herr, h⟩ := hostWrite_cases off v s
  · rwa [h]
  · rw [h]; exact coherent_writeStatus hs v
  · rw [h]; exact coherent_dropWrite hs
  · have he := engine_of_idle hs hidle
    obtain h | h | h := h <;> (rw [h]; refine (coherent_start_iff ?_).mpr ⟨hflags, hcause⟩; simpa using he)
  · rw [h]
    exact (coherent_start_iff (issue_engine s v)).mpr ⟨by simp [flagsExclusive, herr], hcause⟩

/-- R46: an access, served. -/
theorem coherent_serveAccess {s : State} (hs : Coherent s) (a : Access) : Coherent (serveAccess a s) := by
  cases a with
  | read off width => exact coherent_hostRead hs off
  | write off width v => exact coherent_hostWrite hs off v

/-- R150: reset, from any state. -/
theorem coherent_hardReset (s : State) : Coherent (hardReset s) :=
  (coherent_setEnv_iff _ _).mpr ResetValues.resetIsCoherent

/-- Settles O57, by what the step can be: a move of the block, or an entry of the schedule served. -/
theorem everyStepKeepsCoherence : Obligations.EveryStepKeepsCoherence := by
  intro s t hs h
  obtain ⟨-, hmove⟩ | ⟨rest, a, -, -, rfl⟩ | ⟨rest, -, hmove⟩ | ⟨rest, -, rfl⟩ | ⟨rest, -, -, hmove⟩
    | ⟨rest, -, -, rfl⟩ := step_cases s t h
  · exact blockTurn_coherent hs hmove
  · exact coherent_serveAccess (coherent_setAgenda hs rest) a
  · exact blockTurn_coherent (coherent_setAgenda hs rest) hmove
  · exact coherent_hardReset _
  · exact blockTurn_coherent (coherent_setAgenda (coherent_hostRead hs _) _) hmove
  · exact coherent_setAgenda (coherent_hostRead hs _) rest

end Sys2Proof.Proofs.Coherence

/-! PROOFS. What the lane file and the working registers held before never shows: two states that agree on what
the sampler reads before it writes go through alike steps (spec/10_state.md R30, R33; spec/70_reset_and_hazards.md
R160). -/

namespace Sys2Proof.Proofs.HiddenState

open Sys2Proof.Machine

/-! ### States that differ in hidden registers -/

/-- The second state is the first with another lane file and other working registers. -/
def SameShown (s t : State) : Prop := ∃ (l : LaneFile) (w : Work), t = setLanes l (setWork w s)

theorem SameShown.setStream {s t : State} (h : SameShown s t) (v : Word) :
    SameShown (setStream v s) (setStream v t) := by
  obtain ⟨l, w, rfl⟩ := h; exact ⟨l, w, rfl⟩

theorem SameShown.setEngine {s t : State} (h : SameShown s t) (e : Engine) :
    SameShown (setEngine e s) (setEngine e t) := by
  obtain ⟨l, w, rfl⟩ := h; exact ⟨l, w, rfl⟩

theorem SameShown.setEnv {s t : State} (h : SameShown s t) (e : Env) : SameShown (setEnv e s) (setEnv e t) := by
  obtain ⟨l, w, rfl⟩ := h; exact ⟨l, w, rfl⟩

theorem SameShown.setWork {s t : State} (h : SameShown s t) (v w : Work) :
    SameShown (setWork v s) (setWork w t) := by
  obtain ⟨l, x, rfl⟩ := h; exact ⟨l, w, rfl⟩

theorem SameShown.setLanes {s t : State} (h : SameShown s t) (k l : LaneFile) :
    SameShown (setLanes k s) (setLanes l t) := by
  obtain ⟨m, w, rfl⟩ := h; exact ⟨l, w, rfl⟩

theorem SameShown.raiseFault {s t : State} (h : SameShown s t) (c : Cause) :
    SameShown (raiseFault c s) (raiseFault c t) := by
  obtain ⟨l, w, rfl⟩ := h; exact ⟨l, w, rfl⟩

theorem SameShown.completeBoth {s t : State} (h : SameShown s t) (hi lo : Word) :
    SameShown (completeBoth hi lo s) (completeBoth hi lo t) := by
  obtain ⟨l, w, rfl⟩ := h; exact ⟨l, w, rfl⟩

theorem SameShown.completeRes0 {s t : State} (h : SameShown s t) (v : Word) :
    SameShown (completeRes0 v s) (completeRes0 v t) := by
  obtain ⟨l, w, rfl⟩ := h; exact ⟨l, w, rfl⟩

/-! ### Likeness, position by position -/

/-- Alike states show the same, and agree on what is live. -/
theorem alike_iff (s t : State) : Alike s t ↔ SameShown s t ∧ liveAgree s t := by
  constructor
  · rintro ⟨hcmd, hstatus, hcause, hopa, hopb, hres0, hres1, hstream, hengine, henv, hlive⟩
    refine ⟨⟨t.lanes, t.work, ?_⟩, hlive⟩
    cases s; cases t
    subst hcmd hstatus hcause hopa hopb hres0 hres1 hstream hengine henv
    rfl
  · rintro ⟨⟨l, w, rfl⟩, hlive⟩
    exact ⟨rfl, rfl, rfl, rfl, rfl, rfl, rfl, rfl, rfl, rfl, hlive⟩

/-- With no loop open nothing hidden is live. -/
theorem alike_start_iff {s t : State} (he : s.engine = .start) : Alike s t ↔ SameShown s t := by
  simp only [alike_iff, liveAgree, he, and_true]

theorem alike_scalar_iff {s t : State} (he : s.engine = .scalar) :
    Alike s t ↔ SameShown s t ∧ s.work.acc = t.work.acc ∧ s.work.B = t.work.B ∧ s.work.k = t.work.k := by
  simp only [alike_iff, liveAgree, he]

theorem alike_lanes_iff {s t : State} (he : s.engine = .lanes) :
    Alike s t ↔ SameShown s t ∧ s.work.n = t.work.n ∧ s.work.E64 = t.work.E64 ∧ s.work.k = t.work.k
      ∧ s.lanes.cur = t.lanes.cur := by
  simp only [alike_iff, liveAgree, he]

/-- The registers that the set-up of R113 writes agree: they are what the loop of R121 reads before it writes. -/
structure SameRate (v w : Work) : Prop where
  smu : v.smu = w.smu
  b : v.b = w.b
  a : v.a = w.a
  vr : v.vr = w.vr
  invAlpha : v.invAlpha = w.invAlpha
  vr86 : v.vr86 = w.vr86
  lnu : v.lnu = w.lnu

theorem alike_ptrs_iff {s t : State} (he : s.engine = .ptrs) :
    Alike s t ↔ SameShown s t ∧ SameRate s.work t.work := by
  simp only [alike_iff, liveAgree, he]
  exact ⟨fun ⟨h, hsmu, hb, ha, hvr, hia, hvr86, hlnu⟩ => ⟨h, hsmu, hb, ha, hvr, hia, hvr86, hlnu⟩,
    fun ⟨h, hsmu, hb, ha, hvr, hia, hvr86, hlnu⟩ => ⟨h, hsmu, hb, ha, hvr, hia, hvr86, hlnu⟩⟩

/-- Completed commands with the same result are alike. -/
theorem alike_completeRes0 {s t : State} (h : SameShown s t) (v : Word) :
    Alike (completeRes0 v s) (completeRes0 v t) :=
  (alike_start_iff (complete_engine _)).mpr (h.completeRes0 v)

theorem alike_raiseFault {s t : State} (h : SameShown s t) (c : Cause) :
    Alike (raiseFault c s) (raiseFault c t) :=
  (alike_start_iff (raiseFault_engine s c)).mpr (h.raiseFault c)

/-! ### The first step of POIS -/

/-- R91: the first step reads nothing hidden, and opens a loop with its live registers written. -/
theorem poisStart_alike (p : Params) {s t : State} (h : SameShown s t) :
    Alike (poisStart p s) (poisStart p t) := by
  have hrate : rateOf t = rateOf s := by obtain ⟨l, w, rfl⟩ := h; rfl
  have hseeded : t.status.seeded = s.status.seeded := by obtain ⟨l, w, rfl⟩ := h; rfl
  unfold poisStart
  simp only [hrate, hseeded]
  split
  · exact alike_raiseFault h _
  split
  · exact alike_raiseFault h _
  split
  · exact alike_completeRes0 h _
  split
  · exact (alike_scalar_iff (setEngine_engine _ _)).mpr ⟨(h.setWork _ _).setEngine _, rfl, rfl, rfl⟩
  split
  · exact (alike_lanes_iff (setEngine_engine _ _)).mpr
      ⟨((h.setWork _ _).setLanes _ _).setEngine _, rfl, rfl, rfl, rfl⟩
  · exact (alike_ptrs_iff (setEngine_engine _ _)).mpr
      ⟨(h.setWork _ _).setEngine _, rfl, rfl, rfl, rfl, rfl, rfl, rfl⟩

/-! ### The scalar loop -/

/-- R94: a multiplication reads the accumulator and the balance. -/
theorem scalarMultiply_congr (r : Word) {v w : Work} (hacc : v.acc = w.acc) (hB : v.B = w.B) :
    (scalarMultiply r v).acc = (scalarMultiply r w).acc ∧ (scalarMultiply r v).B = (scalarMultiply r w).B := by
  simp only [scalarMultiply, hacc, hB, and_self]

/-- R94: alike states make alike scalar iterations. -/
theorem scalarIter_alike (p : Params) {s t : State} (he : s.engine = .scalar) (h : Alike s t) :
    Alike (scalarIter p s) (scalarIter p t) := by
  obtain ⟨hshown, hacc, hB, hk⟩ := (alike_scalar_iff he).mp h
  have hstream : t.stream = s.stream := by obtain ⟨l, w, rfl⟩ := hshown; rfl
  have hdrawn := hshown.setStream (s.stream + p.prngInc)
  obtain ⟨v, hv, hs⟩ := scalarIter_cases p s
  obtain ⟨w, hw, ht⟩ := scalarIter_cases p t
  rw [hstream] at hw ht
  obtain ⟨hacc', hB'⟩ := scalarMultiply_congr (nextRaw p s.stream).1 hacc hB
  rw [← hv, ← hw] at hacc' hB'
  obtain ⟨hneg, hs⟩ | ⟨hpos, hs⟩ := hs <;> obtain ⟨hneg', ht⟩ | ⟨hpos', ht⟩ := ht
  · rw [hs, ht, hk]; exact alike_completeRes0 (hdrawn.setWork _ _) _
  · omega
  · omega
  · rw [hs, ht, hk]
    have he' : (setWork { v with k := t.work.k + 1 } (setStream (s.stream + p.prngInc) s)).engine = .scalar := he
    exact (alike_scalar_iff he').mpr ⟨hdrawn.setWork _ _, hacc', hB', rfl⟩

/-! ### The 16-lane loop -/

/-- R102: alike states make alike 16-lane iterations: the older snapshot is written before it is read. -/
theorem lanesIter_alike (p : Params) {s t : State} (he : s.engine = .lanes) (h : Alike s t) :
    Alike (lanesIter p s) (lanesIter p t) := by
  obtain ⟨hshown, hn, hE, hk, hcur⟩ := (alike_lanes_iff he).mp h
  have hstream : t.stream = s.stream := by obtain ⟨l, w, rfl⟩ := hshown; rfl
  have hfour : (drawFour p t).1 = (drawFour p s).1 := by obtain ⟨l, w, rfl⟩ := hshown; rfl
  obtain ⟨x, hx, s', hs', hs⟩ := lanesIter_cases p s
  obtain ⟨y, hy, t', ht', ht⟩ := lanesIter_cases p t
  have hyx : y = x := by rw [hx, hy, hfour, hcur]
  rw [hyx, ← hn, ← hE, ← hcur, ← hk] at ht
  rw [hyx, ← hcur, hstream] at ht'
  have hdrawn : SameShown s' t' := by rw [hs', ht']; exact (hshown.setStream _).setLanes _ _
  obtain ⟨hin, hs⟩ | ⟨hout, i, hi, hs⟩ := hs <;> obtain ⟨hin', ht⟩ | ⟨hout', j, hj, ht⟩ := ht
  · have he' : (setWork { s.work with k := s.work.k + 16 } s').engine = .lanes := by rw [hs']; exact he
    rw [hs, ht]
    refine (alike_lanes_iff he').mpr ⟨hdrawn.setWork _ _, hn, hE, rfl, ?_⟩
    rw [hs', ht']; rfl
  · omega
  · omega
  · rw [hs, ht, hi, hj]; exact alike_completeRes0 hdrawn _

/-! ### The PTRS loop -/

/-- What the slow path reads: the registers of the rate and the two uniforms. -/
structure SameDraws (v w : Work) : Prop extends SameRate v w where
  V : v.V = w.V
  t : v.t = w.t

/-- What the tests of R117 to R120 read, but for the candidate. -/
structure SameShape (v w : Work) : Prop extends SameRate v w where
  V : v.V = w.V
  U : v.U = w.U
  us : v.us = w.us

/-- R117: the reassignment writes `U` and `us` before anything reads them. -/
theorem ptrsSlow_congr (p : Params) {v w : Work} (h : SameDraws v w) : SameShape (ptrsSlow p v) (ptrsSlow p w) := by
  obtain ⟨⟨hsmu, hb, ha, hvr, hia, hvr86, hlnu⟩, hV, ht⟩ := h
  cases v; cases w
  subst hsmu hb ha hvr hia hvr86 hlnu hV ht
  unfold ptrsSlow ptrsReassign
  dsimp only
  split <;> exact ⟨⟨rfl, rfl, rfl, rfl, rfl, rfl, rfl⟩, rfl, rfl, rfl⟩

theorem ptrsGuard_congr (p : Params) {v w : Work} (h : SameShape v w) : ptrsGuard p v = ptrsGuard p w := by
  simp only [ptrsGuard, h.us, h.V]

theorem ptrsK_congr (p : Params) (u : Int) {v w : Work} (h : SameShape v w) : ptrsK p u v = ptrsK p u w := by
  simp only [ptrsK, h.a, h.b, h.U, h.us]

/-- R119: the squeeze accepts when both stages do. -/
theorem ptrsSqueeze_snd (p : Params) (u : Int) (w : Work) :
    (ptrsSqueeze p u w).2 =
      (decide ((ptrsSides p u w).lhs < (ptrsSides p u w).rhs0)
        && decide ((ptrsSides p u w).lhs < (ptrsSides p u w).rhs0 - (ptrsCorr p (ptrsSides p u w)).corr)) := by
  unfold ptrsSqueeze
  dsimp only
  split
  · simp_all only [decide_true, Bool.true_and]; rfl
  · simp_all

/-- R118 to R120: the decision reads the shape and the candidate. -/
theorem ptrsDecide_congr (p : Params) (u : Int) {v w : Work} (h : SameShape v w) (hk : v.k = w.k) :
    (ptrsDecide p u v).2 = (ptrsDecide p u w).2 := by
  obtain ⟨⟨hsmu, hb, ha, hvr, hia, hvr86, hlnu⟩, hV, hU, hus⟩ := h
  cases v; cases w
  subst hsmu hb ha hvr hia hvr86 hlnu hV hU hus hk
  unfold ptrsDecide
  dsimp only [ptrsRescale]
  split
  · rw [ptrsSqueeze_snd, ptrsSqueeze_snd]; rfl
  · rfl

/-- R117 to R120: the slow path decides alike, and on the same candidate. -/
theorem ptrsSlowPath_congr (p : Params) (u : Int) {v w : Work} (h : SameDraws v w) :
    (ptrsSlowPath p u v).2 = (ptrsSlowPath p u w).2
      ∧ ((ptrsSlowPath p u w).2 = true → (ptrsSlowPath p u v).1.k = (ptrsSlowPath p u w).1.k) := by
  have hshape := ptrsSlow_congr p h
  have hK := ptrsK_congr p u hshape
  have hshape' : SameShape { ptrsSlow p v with k := ptrsK p u (ptrsSlow p v) }
      { ptrsSlow p w with k := ptrsK p u (ptrsSlow p w) } :=
    ⟨⟨hshape.smu, hshape.b, hshape.a, hshape.vr, hshape.invAlpha, hshape.vr86, hshape.lnu⟩, hshape.V, hshape.U,
      hshape.us⟩
  have hdecide := ptrsDecide_congr p u hshape' hK
  unfold ptrsSlowPath
  simp only [ptrsGuard_congr p hshape]
  split
  · exact ⟨rfl, by simp⟩
  · simp only [hK] at hdecide ⊢
    split
    · exact ⟨rfl, by simp⟩
    · exact ⟨hdecide, fun _ => by rw [(sameSetup_decide p u _).2, (sameSetup_decide p u _).2]⟩

/-- R115, R116: the fast path's candidate reads the registers of the rate and `V`. -/
theorem ptrsFastPath_k_congr (p : Params) (u : Int) {v w : Work} (h : SameRate v w) (hV : v.V = w.V) :
    (ptrsFastPath p u v).k = (ptrsFastPath p u w).k := by
  simp only [ptrsFastPath, ptrsFast, ptrsK, h.a, h.b, h.vr, hV]

/-- R117 to R120: the registers of the rate are kept on both sides. -/
theorem sameRate_slowPath (p : Params) (u : Int) {v w : Work} (h : SameRate v w) :
    SameRate (ptrsSlowPath p u v).1 (ptrsSlowPath p u w).1 := by
  obtain ⟨⟨hsmu, hb, ha, hvr, hia, hvr86, hlnu, -⟩, -⟩ := ptrsSlowPath_cases p u v
  obtain ⟨⟨hsmu', hb', ha', hvr', hia', hvr86', hlnu', -⟩, -⟩ := ptrsSlowPath_cases p u w
  exact ⟨by rw [hsmu, hsmu', h.smu], by rw [hb, hb', h.b], by rw [ha, ha', h.a], by rw [hvr, hvr', h.vr],
    by rw [hia, hia', h.invAlpha], by rw [hvr86, hvr86', h.vr86], by rw [hlnu, hlnu', h.lnu]⟩

/-- R121: alike states make alike PTRS iterations. -/
theorem ptrsIter_alike (p : Params) {s t : State} (he : s.engine = .ptrs) (h : Alike s t) :
    Alike (ptrsIter p s) (ptrsIter p t) := by
  obtain ⟨hshown, hrate⟩ := (alike_ptrs_iff he).mp h
  have hstream : t.stream = s.stream := by obtain ⟨l, w, rfl⟩ := hshown; rfl
  have hopa : t.opa = s.opa := by obtain ⟨l, w, rfl⟩ := hshown; rfl
  obtain ⟨v, hv, hs⟩ := ptrsIter_cases p s
  obtain ⟨w, hw, ht⟩ := ptrsIter_cases p t
  rw [hstream] at hw ht
  rw [hopa] at ht
  have hV : v.V = w.V := by rw [hv, hw]
  have hvw : SameRate v w := by
    rw [hv, hw]; exact ⟨hrate.smu, hrate.b, hrate.a, hrate.vr, hrate.invAlpha, hrate.vr86, hrate.lnu⟩
  have hvr86 := hvw.vr86
  obtain ⟨hfast, hs⟩ | ⟨hslow, r, hr, hs⟩ := hs <;> obtain ⟨hfast', ht⟩ | ⟨hslow', q, hq, ht⟩ := ht
  · rw [hs, ht, ptrsFastPath_k_congr p _ hvw hV]
    exact alike_completeRes0 ((hshown.setStream _).setWork _ _) _
  · omega
  · omega
  · have hdraws : SameDraws { v with t := upperHalf (nextRaw p (s.stream + p.prngInc)).1 }
        { w with t := upperHalf (nextRaw p (s.stream + p.prngInc)).1 } :=
      ⟨⟨hvw.smu, hvw.b, hvw.a, hvw.vr, hvw.invAlpha, hvw.vr86, hvw.lnu⟩, hV, rfl⟩
    obtain ⟨haccept, hk⟩ := ptrsSlowPath_congr p (s64 s.opa) hdraws
    have hkept := sameRate_slowPath p (s64 s.opa) hdraws.toSameRate
    rw [← hr, ← hq] at haccept hkept hk
    rw [hs, ht, haccept]
    split
    · rename_i hq2
      rw [hk hq2]
      exact alike_completeRes0 ((hshown.setStream _).setWork _ _) _
    · have he' : (setWork r.1 (setStream (s.stream + p.prngInc + p.prngInc) s)).engine = .ptrs := he
      exact (alike_ptrs_iff he').mpr ⟨(hshown.setStream _).setWork _ _, hkept⟩

/-! ### A move of the block -/

/-- A command that faults or completes on a condition that shows does so on both sides. -/
theorem alikeOutcome_fault_or_result {s t : State} (h : SameShown s t) (P : Prop) [Decidable P] (c : Cause)
    (v : Word) :
    AlikeOutcome (if P then .next (raiseFault c s) else .next (completeRes0 v s))
      (if P then .next (raiseFault c t) else .next (completeRes0 v t)) := by
  split
  · exact alike_raiseFault h c
  · exact alike_completeRes0 h v

/-- R60: a command other than `POIS` reads nothing hidden. -/
theorem exec_simple_alike {i : Instr} (hi : i ≠ .pois) {s t : State} (h : SameShown s t) :
    AlikeOutcome (exec i s) (exec i t) := by
  have ⟨l, w, ht⟩ := h
  subst ht
  cases i with
  | nop => exact (alike_start_iff (complete_engine _)).mpr ⟨l, w, rfl⟩
  | next =>
    unfold exec execNext nextWith
    simp only [draw_fst, draw_snd, setLanes_status, setWork_status, setLanes_stream, setWork_stream]
    split
    · exact alike_raiseFault h _
    · exact alike_completeRes0 (h.setStream _) _
  | mulhu | mulhs | sqrt => exact alike_completeRes0 h _
  | mulu | muls => exact (alike_start_iff (complete_engine _)).mpr (h.completeBoth _ _)
  | exp2 | log2n | log2 | ln => exact alikeOutcome_fault_or_result h _ _ _
  | pois => exact absurd rfl hi

/-- R91: alike states take alike steps of `POIS`. -/
theorem exec_pois_alike {s t : State} (h : Alike s t) : AlikeOutcome (exec .pois s) (exec .pois t) := by
  have hengine : t.engine = s.engine := by obtain ⟨⟨l, w, rfl⟩, -⟩ := (alike_iff s t).mp h; rfl
  unfold exec execPois poisWith
  simp only [hengine]
  cases he : s.engine with
  | start => exact poisStart_alike params ((alike_start_iff he).mp h)
  | scalar => exact scalarIter_alike params he h
  | lanes => exact lanesIter_alike params he h
  | ptrs => exact ptrsIter_alike params he h

/-- R60: alike states make alike moves of the block. -/
theorem blockTurn_alike {s t : State} (h : Alike s t) : AlikeOutcome (blockTurn s) (blockTurn t) := by
  have hshown : SameShown s t := ((alike_iff s t).mp h).1
  have hbusy : t.status.busy = s.status.busy := by obtain ⟨l, w, rfl⟩ := hshown; rfl
  have hcmd : t.cmd = s.cmd := by obtain ⟨l, w, rfl⟩ := hshown; rfl
  unfold blockTurn
  rw [hbusy, hcmd]
  split
  · split
    · rename_i i _
      by_cases hi : i = .pois
      · rw [hi]; exact exec_pois_alike h
      · exact exec_simple_alike hi hshown
    · exact alike_raiseFault hshown _
  · exact h

/-! ### What the host does -/

/-- A change of what shows, made on both sides, with the sampler left where it is. -/
theorem alike_of_same_sampler {s t s' t' : State} (h : Alike s t) (hshown : SameShown s' t')
    (hengine : s'.engine = s.engine) (hwork : s'.work = s.work) (hlanes : s'.lanes = s.lanes)
    (hwork' : t'.work = t.work) (hlanes' : t'.lanes = t.lanes) : Alike s' t' := by
  have hlive := ((alike_iff s t).mp h).2
  refine (alike_iff s' t').mpr ⟨hshown, ?_⟩
  simpa only [liveAgree, hengine, hwork, hlanes, hwork', hlanes'] using hlive

theorem alike_setEnv {s t : State} (h : Alike s t) (e : Env) : Alike (setEnv e s) (setEnv e t) :=
  alike_of_same_sampler h (((alike_iff s t).mp h).1.setEnv e) rfl rfl rfl rfl rfl

theorem env_eq_of_alike {s t : State} (h : Alike s t) : t.env = s.env := by
  obtain ⟨⟨l, w, rfl⟩, -⟩ := (alike_iff s t).mp h; rfl

theorem alike_setAgenda {s t : State} (h : Alike s t) (l : List Event) : Alike (setAgenda l s) (setAgenda l t) := by
  have := alike_setEnv h { s.env with agenda := l }
  rwa [show setEnv { s.env with agenda := l } t = setAgenda l t by rw [← env_eq_of_alike h]; rfl] at this

/-- R40, R43: a read shows no hidden register. -/
theorem readValue_shown {s t : State} (h : SameShown s t) (off : Nat) :
    readsUnspecified off t = readsUnspecified off s ∧ readValue off t = readValue off s := by
  obtain ⟨l, w, rfl⟩ := h
  exact ⟨rfl, rfl⟩

theorem alike_hostRead {s t : State} (h : Alike s t) (off : Nat) : Alike (hostRead off s) (hostRead off t) := by
  obtain ⟨hunspecified, hvalue⟩ := readValue_shown ((alike_iff s t).mp h).1 off
  unfold hostRead
  rw [hunspecified, hvalue, env_eq_of_alike h]
  exact alike_setEnv h _

/-- R44: a host write reads and writes nothing hidden. -/
theorem alike_hostWrite {s t : State} (h : Alike s t) (off : Nat) (v : Word) :
    Alike (hostWrite off v s) (hostWrite off v t) := by
  obtain ⟨⟨l, w, rfl⟩, -⟩ := (alike_iff s t).mp h
  have hdrop : Alike (dropWrite s) (dropWrite (setLanes l (setWork w s))) :=
    alike_of_same_sampler h ⟨l, w, rfl⟩ rfl rfl rfl rfl rfl
  unfold hostWrite
  split
  case h_1 => exact alike_of_same_sampler h ⟨l, w, rfl⟩ rfl rfl rfl rfl rfl
  case h_5 =>
    unfold writeCmd
    simp only [setLanes_status, setWork_status]
    split
    · exact hdrop
    · exact (alike_start_iff (issue_engine s v)).mpr ⟨l, w, rfl⟩
  case h_2 | h_3 | h_4 =>
    simp only [writeStream, setLanes_status, setWork_status]
    split
    · exact hdrop
    · exact alike_of_same_sampler h ⟨l, w, rfl⟩ rfl rfl rfl rfl rfl
  all_goals exact h

/-- R46: an access, served on both sides. -/
theorem alike_serveAccess {s t : State} (h : Alike s t) (a : Access) : Alike (serveAccess a s) (serveAccess a t) := by
  cases a with
  | read off width => exact alike_hostRead h off
  | write off width v => exact alike_hostWrite h off v

/-- R150: reset makes one state of both. -/
theorem alike_hardReset {s t : State} (h : Alike s t) : Alike (hardReset s) (hardReset t) := by
  rw [hardReset, hardReset, env_eq_of_alike h]
  exact (alike_start_iff rfl).mpr ⟨_, _, rfl⟩

/-- R56: a `wait` polls alike and lets the block move alike. -/
theorem pollStatus_alike {s t : State} (h : Alike s t) (rest : List Event) :
    AlikeOutcome (pollStatus rest s) (pollStatus rest t) := by
  have hbusy : t.status.busy = s.status.busy := by obtain ⟨⟨l, w, rfl⟩, -⟩ := (alike_iff s t).mp h; rfl
  unfold pollStatus
  rw [hbusy]
  split
  · exact blockTurn_alike (alike_setAgenda (alike_hostRead h _) _)
  · exact alike_setAgenda (alike_hostRead h _) _

/-! ### Steps and runs -/

/-- R160: alike states take alike steps. -/
theorem step_alike {s t : State} (h : Alike s t) : AlikeOutcome (step s) (step t) := by
  unfold step
  rw [env_eq_of_alike h]
  cases s.env.agenda with
  | nil => exact blockTurn_alike h
  | cons e rest =>
    have hrest := alike_setAgenda h rest
    cases e with
    | access a =>
      simp only [serve]
      split
      · exact alike_serveAccess hrest a
      · exact rfl
    | wait => exact pollStatus_alike h rest
    | block => exact blockTurn_alike hrest
    | reset => exact alike_hardReset hrest

/-- A run is a step and the run from where it leads. -/
theorem runs_succ_of_next {s t : State} (h : step s = .next t) (k : Nat) : runs (k + 1) s = runs k t := by
  have hstep : Sys2Proof.core.step s = .next t := h
  simp only [runs, Host.Core.run, hstep] <;> rfl

/-- A refusal ends a run. -/
theorem runs_succ_of_refused {s : State} {r : Refusal} (h : step s = .refused r) (k : Nat) :
    runs (k + 1) s = .refused r := by
  have hstep : Sys2Proof.core.step s = .refused r := h
  simp only [runs, Host.Core.run, hstep] <;> rfl

/-- Settles O59, by induction on the number of steps. -/
theorem oldWorkingStateNeverShows : Obligations.OldWorkingStateNeverShows := by
  intro k
  induction k with
  | zero => exact fun s t h => h
  | succ k ih =>
    intro s t h
    have hstep := step_alike h
    cases hs : step s with
    | next s' =>
      cases ht : step t with
      | next t' =>
        rw [hs, ht] at hstep
        rw [runs_succ_of_next hs, runs_succ_of_next ht]
        exact ih s' t' hstep
      | fault r => exact nomatch r
      | refused r => rw [hs, ht] at hstep; exact hstep.elim
    | fault r => exact nomatch r
    | refused r =>
      cases ht : step t with
      | next t' => rw [hs, ht] at hstep; exact hstep.elim
      | fault q => exact nomatch q
      | refused q =>
        rw [hs, ht] at hstep
        rw [runs_succ_of_refused hs, runs_succ_of_refused ht]
        exact hstep

end Sys2Proof.Proofs.HiddenState

/-! PROOFS. A word as the eight bytes a byte-addressed bridge carries (spec/20_memory.md R42). -/

namespace Sys2Proof.Proofs.BridgeBytes

open Sys2Proof.Machine

/-- R42: bit `j` of byte `i` is bit `8i+j` of the word. -/
theorem getLsbD_bridgeByte (w : Word) (i : Nat) {j : Nat} (hj : j < 8) :
    (bridgeByte w i).getLsbD j = w.getLsbD (8 * i + j) := by
  simp [bridgeByte, hj]

/-- R42: byte `i` is digit `i` of the word in base 256. -/
theorem toNat_bridgeByte (w : Word) (i : Nat) : (bridgeByte w i).toNat = w.toNat / 256 ^ i % 256 := by
  rw [bridgeByte, BitVec.extractLsb'_toNat, Nat.shiftRight_eq_div_pow, Nat.pow_mul]

/-- `k` bytes from byte `i` on, the lowest first, make the number those `k` digits write. -/
theorem foldr_bridgeByte (w : Word) (k i : Nat) :
    ((List.range' i k).map (bridgeByte w)).foldr (fun x acc => x.toNat + 256 * acc) 0
      = w.toNat / 256 ^ i % 256 ^ k := by
  induction k generalizing i with
  | zero => simp [Nat.mod_one]
  | succ k ih =>
    rw [List.range'_succ, List.map_cons, List.foldr_cons, ih, toNat_bridgeByte, Nat.pow_succ' (n := k),
      Nat.mod_mul, Nat.pow_succ, Nat.div_div_eq_div_mul]

/-- R42: the eight bytes of a word make the word again. -/
theorem wordOfBytes_bridgeBytes (w : Word) : wordOfBytes ((List.range 8).map (bridgeByte w)) = w := by
  apply BitVec.eq_of_toNat_eq
  have hw : w.toNat < 2 ^ 64 := w.isLt
  rw [wordOfBytes, List.range_eq_range', foldr_bridgeByte, BitVec.toNat_ofNat]
  omega

/-- Settles O5: the bytes are the base-256 digits of the word, so eight of them are the word. -/
theorem bridgeBytesAreLittleEndian : Obligations.BridgeBytesAreLittleEndian := by
  intro w
  refine ⟨fun i j _ hj => getLsbD_bridgeByte w i hj, wordOfBytes_bridgeBytes w, ?_⟩
  rw [decodeBytes, wordOfBytes_bridgeBytes]
  exact if_pos (by simp)

end Sys2Proof.Proofs.BridgeBytes

/-! PROOFS. The port: the register map, what a host write does and what a host read is told, and which accesses
are served (spec/20_memory.md R40 to R46). -/

namespace Sys2Proof.Proofs.Port

open Sys2Proof.Machine

/-! ### The register map -/

/-- R40: a register stands at its own offset, and no offset holds two. -/
theorem regAt_eq_some_iff (off : Nat) (r : Reg) : regAt off = some r ↔ regOffset r = off := by
  constructor
  · intro h
    simpa using List.find?_some h
  · rintro rfl
    cases r <;> rfl

/-- R40: an offset is reserved when no register stands there. -/
theorem regAt_eq_none_iff (off : Nat) : regAt off = none ↔ ∀ r, regOffset r ≠ off := by
  simp only [Option.eq_none_iff_forall_ne_some, ne_eq, regAt_eq_some_iff]

/-- R40: the nine offsets that hold a register. -/
theorem ne_of_regAt_none {off : Nat} (h : regAt off = none) :
    off ≠ 0x00 ∧ off ≠ 0x08 ∧ off ≠ 0x10 ∧ off ≠ 0x18 ∧ off ≠ 0x20 ∧ off ≠ 0x28 ∧ off ≠ 0x30 ∧ off ≠ 0x38
      ∧ off ≠ 0x40 := by
  have hfree := (regAt_eq_none_iff off).mp h
  exact ⟨(hfree .id).symm, (hfree .cmd).symm, (hfree .status).symm, (hfree .cause).symm, (hfree .opa).symm,
    (hfree .opb).symm, (hfree .res0).symm, (hfree .res1).symm, (hfree .stream).symm⟩

/-! ### Writes -/

/-- R44: a write that is taken while the block is idle and dropped while it is busy. -/
def takenWhenIdle (take : State → State) (s : State) : State := if s.status.busy then dropWrite s else take s

theorem hostWrite_status (v : Word) (s : State) : hostWrite 0x10 v s = writeStatus v s := rfl
theorem hostWrite_cmd (v : Word) (s : State) : hostWrite 0x08 v s = writeCmd v s := rfl
theorem hostWrite_opa (v : Word) (s : State) : hostWrite 0x20 v s = takenWhenIdle (setOpa v) s := rfl
theorem hostWrite_opb (v : Word) (s : State) : hostWrite 0x28 v s = takenWhenIdle (setOpb v) s := rfl
theorem hostWrite_stream (v : Word) (s : State) :
    hostWrite 0x40 v s = takenWhenIdle (fun t => setStatus (flagsSeeded t.status) (setStream v t)) s := rfl

/-- R40: a write of a reserved offset is ignored. -/
theorem hostWrite_reserved {off : Nat} (h : regAt off = none) (v : Word) (s : State) : hostWrite off v s = s := by
  simp only [hostWrite, h]

/-- R24, R44: the `STATUS` write, each of its two bits as a choice. -/
theorem writeStatus_eq (v : Word) (s : State) :
    writeStatus v s =
      { s with
        status := { s.status with
          err := if v.getLsbD 2 then false else s.status.err
          ovr := if v.getLsbD 4 then false else s.status.ovr }
        cause := if v.getLsbD 2 then .noFault else s.cause } := by
  simp only [writeStatus, setCause, setStatus, flagsWritten, causeWritten]
  cases v.getLsbD 2 <;> cases v.getLsbD 4 <;> simp

/-- R44: of a `CMD` write the sampler's position is left out. -/
theorem sameButPosition_hostWrite_cmd (v : Word) (s : State) :
    SameButPosition (hostWrite 0x08 v s)
      (if s.status.busy = true ∨ s.status.err = true then dropWrite s
       else { s with cmd := v, status := flagsIssued s.status }) := by
  rw [hostWrite_cmd, writeCmd]
  by_cases h : s.status.busy = true ∨ s.status.err = true
  · simp only [if_pos h, Bool.or_eq_true]; rfl
  · simp only [if_neg h, Bool.or_eq_true]; rfl

/-- A state is itself, in every position. -/
theorem sameButPosition_of_eq {t u : State} (h : t = u) : SameButPosition t u := by
  subst h; rfl

/-! ### Writes made twice -/

@[simp] theorem dropWrite_busy (s : State) : (dropWrite s).status.busy = s.status.busy := (rfl)

theorem dropWrite_dropWrite (s : State) : dropWrite (dropWrite s) = dropWrite s := rfl

/-- What is taken or dropped by `BUSY` is idempotent when taking it is and leaves `BUSY` alone. -/
theorem takenWhenIdle_idem {take : State → State} (hbusy : ∀ s, (take s).status.busy = s.status.busy)
    (htake : ∀ s, take (take s) = take s) (s : State) :
    takenWhenIdle take (takenWhenIdle take s) = takenWhenIdle take s := by
  unfold takenWhenIdle
  cases hb : s.status.busy with
  | true => simp [hb, dropWrite_dropWrite]
  | false => simp [hb, hbusy, htake]

/-- A bit that is cleared stays cleared. -/
theorem writeStatus_idem (v : Word) (s : State) : writeStatus v (writeStatus v s) = writeStatus v s := by
  simp only [writeStatus_eq]
  cases v.getLsbD 2 <;> cases v.getLsbD 4 <;> rfl

/-- R44: a second equal write of `STATUS`, `OPA`, `OPB` or `STREAM` does nothing. -/
theorem hostWrite_idem {off : Nat} (h : off ∈ [0x10, 0x20, 0x28, 0x40]) (v : Word) (s : State) :
    hostWrite off v (hostWrite off v s) = hostWrite off v s := by
  simp only [List.mem_cons, List.not_mem_nil, or_false] at h
  obtain rfl | rfl | rfl | rfl := h
  · simp only [hostWrite_status, writeStatus_idem]
  · simp only [hostWrite_opa]; apply takenWhenIdle_idem <;> exact fun _ => rfl
  · simp only [hostWrite_opb]; apply takenWhenIdle_idem <;> exact fun _ => rfl
  · simp only [hostWrite_stream]; apply takenWhenIdle_idem <;> exact fun _ => rfl

/-- R44: on the block after reset a first write of `CMD` issues, and a second finds it busy and is dropped. -/
theorem hostWrite_cmd_not_idem :
    hostWrite 0x08 0#64 (hostWrite 0x08 0#64 State.reset) ≠ hostWrite 0x08 0#64 State.reset := fun h =>
  absurd (congrArg (fun s => s.status.ovr) h) (by decide)

/-- Settles O10: the table is read off by the register that stands at the offset. -/
theorem hostWritesFollowTheirTable : Obligations.HostWritesFollowTheirTable := by
  refine ⟨fun s off v _ _ => ?_, fun s v off hoff => hostWrite_idem hoff v s,
    State.reset, 0#64, hostWrite_cmd_not_idem⟩
  change SameButPosition (hostWrite off v s) _
  cases hr : regAt off with
  | none =>
    obtain ⟨-, h08, h10, -, h20, h28, -, -, h40⟩ := ne_of_regAt_none hr
    simp only [if_neg h08, if_neg h10, if_neg h20, if_neg h28, if_neg h40]
    exact sameButPosition_of_eq (hostWrite_reserved hr v s)
  | some r =>
    obtain rfl := (regAt_eq_some_iff off r).mp hr
    cases r with
    | id | cause | res0 | res1 => exact sameButPosition_of_eq rfl
    | status => exact sameButPosition_of_eq ((hostWrite_status v s).trans (writeStatus_eq v s))
    | opa => exact sameButPosition_of_eq (hostWrite_opa v s)
    | opb => exact sameButPosition_of_eq (hostWrite_opb v s)
    | stream => exact sameButPosition_of_eq (hostWrite_stream v s)
    | cmd => exact sameButPosition_hostWrite_cmd v s

/-! ### Reads -/

/-- R43: a register's offset reads the register's value, or a free value where `BUSY` hides it. -/
theorem readValue_regOffset (r : Reg) (s : State) :
    readValue (regOffset r) s =
      if hiddenWhileBusy r && s.status.busy then Config.unspecified s.env.freeCount else regValue r s := by
  simp only [readValue, readsUnspecified, (regAt_eq_some_iff _ r).mpr rfl]

/-- R40: a reserved offset reads 0. -/
theorem readValue_reserved {off : Nat} (h : regAt off = none) (s : State) : readValue off s = 0 := by
  simp [readValue, readsUnspecified, h]

/-- R43: what a read does not show: `RES0`, `RES1` and `STREAM`, while the block is busy. -/
theorem readsUnspecified_iff (off : Nat) (s : State) :
    readsUnspecified off s = true ↔ s.status.busy = true ∧ (off = 0x30 ∨ off = 0x38 ∨ off = 0x40) := by
  unfold readsUnspecified
  cases hr : regAt off with
  | none =>
    obtain ⟨-, -, -, -, -, -, h30, h38, h40⟩ := ne_of_regAt_none hr
    simp [h30, h38, h40]
  | some r =>
    obtain rfl := (regAt_eq_some_iff off r).mp hr
    cases r <;> simp [hiddenWhileBusy, regOffset]

/-- Settles O11: the value is read off by the register that stands at the offset; a free value is used up
exactly when one is shown. -/
theorem hostReadsFollowTheirTable : Obligations.HostReadsFollowTheirTable := by
  intro s off _ _ hidden free
  change hostRead off s = _
  simp only [hostRead, setEnv, readsUnspecified_iff]
  congr 3
  cases hr : regAt off with
  | none =>
    obtain ⟨h00, h08, h10, h18, h20, h28, h30, h38, h40⟩ := ne_of_regAt_none hr
    simp only [if_neg h00, if_neg h08, if_neg h10, if_neg h18, if_neg h20, if_neg h28, if_neg h30, if_neg h38,
      if_neg h40]
    exact readValue_reserved hr s
  | some r =>
    obtain rfl := (regAt_eq_some_iff off r).mp hr
    rw [readValue_regOffset]
    cases r with
    | id | cmd | status | cause | opa | opb | res0 | res1 | stream => rfl

/-! ### Which accesses are served -/

/-- R41: the accesses that have a meaning. -/
theorem wellFormed_iff (a : Access) : a.wellFormed = true ↔ a.width = 8 ∧ a.offset % 8 = 0 ∧ a.offset ≤ 0xF8 := by
  simp only [Access.wellFormed, Access.wholeWord, Access.aligned, Access.inRange, Bool.and_eq_true, beq_iff_eq,
    decide_eq_true_eq, and_assoc]

/-- R46: the first entry of the schedule is taken off it and served. -/
theorem step_of_agenda {s : State} {e : Event} {rest : List Event} (h : s.env.agenda = e :: rest) :
    step s = serve e rest s := by
  simp only [step, h]

/-- Settles O13: an access is served exactly when it is well formed. -/
theorem scheduleEntriesAreServed : Obligations.ScheduleEntriesAreServed := by
  intro s rest
  refine ⟨fun a hag => ⟨fun hserved => ?_, fun hrefused => ?_⟩, fun hag => step_of_agenda hag⟩
  · rw [step_of_agenda hag]
    exact if_pos ((wellFormed_iff a).mpr hserved)
  · have hill : ¬ a.wellFormed = true := by
      rw [wellFormed_iff]
      omega
    rw [step_of_agenda hag]
    exact if_neg hill

end Sys2Proof.Proofs.Port

/-! PROOFS. The command decoder and the encoder: what the decoder answers, field by field, and that a command and
its word determine each other (spec/30_encoding.md R50 to R53). -/

namespace Sys2Proof.Proofs.Encoding

open Sys2Proof.Proofs.Coherence (eq_of_fields)

/-! ### The two fields of a word -/

/-- R51: the reserved bits are the word's number over 256. -/
theorem rsvField_eq_zero_iff (w : Word) : rsvField w = 0 ↔ w.toNat < 256 := by
  have hw : w.toNat < 2 ^ 64 := w.isLt
  rw [← BitVec.toNat_inj, rsvField, BitVec.extractLsb'_toNat, Nat.shiftRight_eq_div_pow]
  change w.toNat / 2 ^ 8 % 2 ^ 56 = 0 ↔ w.toNat < 256
  omega

/-- R50: the opcode is the word's number modulo 256. -/
theorem toNat_opcodeField (w : Word) : (opcodeField w).toNat = w.toNat % 256 := by
  rw [opcodeField, BitVec.extractLsb'_toNat, Nat.shiftRight_zero]

/-! ### The opcode map -/

/-- Every command has the form R52 gives its row. -/
theorem encodingForm (i : Instr) : Laws.EncodingForm.Statement i := by
  cases i with
  | nop => exact Laws.EncodingForm.nop
  | next => exact Laws.EncodingForm.next
  | mulhu => exact Laws.EncodingForm.mulhu
  | mulhs => exact Laws.EncodingForm.mulhs
  | mulu => exact Laws.EncodingForm.mulu
  | muls => exact Laws.EncodingForm.muls
  | exp2 => exact Laws.EncodingForm.exp2
  | log2n => exact Laws.EncodingForm.log2n
  | log2 => exact Laws.EncodingForm.log2
  | ln => exact Laws.EncodingForm.ln
  | sqrt => exact Laws.EncodingForm.sqrt
  | pois => exact Laws.EncodingForm.pois

/-- R52: the opcode map and the encoder name the same opcode for each command. -/
theorem lookup_opcodeMap_eq_some_iff (op : BitVec 8) (i : Instr) :
    opcodeMap.lookup op = some i ↔ op = opcodeField (encode i) := by
  obtain ⟨-, -, hlookup, hrows⟩ := encodingForm i
  constructor
  · intro h
    obtain ⟨before, after, hmap, -⟩ := List.lookup_eq_some_iff.mp h
    have hrow : (op, i) ∈ opcodeMap.filter fun row => row.2 == i := by simp [hmap]
    rw [hrows] at hrow
    exact congrArg Prod.fst (List.mem_singleton.mp hrow)
  · rintro rfl
    exact hlookup

/-- R53: the opcodes against which no command stands. -/
theorem lookup_opcodeMap_eq_none_iff (op : BitVec 8) :
    opcodeMap.lookup op = none ↔ op.toNat ∉ opcodeMap.map fun row => row.1.toNat := by
  simp only [List.lookup_eq_none_iff, List.mem_map, not_exists, not_and, bne_iff_ne, ne_eq, BitVec.toNat_inj,
    eq_comm (a := op)]

/-! ### The decoder's three answers -/

/-- R51: the reserved bits are looked at first. -/
theorem decode_of_rsvField_ne_zero {w : Word} (h : rsvField w ≠ 0) : decode w = .error .reservedBits :=
  if_pos h

/-- R51: with the reserved bits 0, a word whose opcode stands in the map decodes to its command. -/
theorem decode_of_lookup_some {w : Word} {i : Instr} (h : rsvField w = 0)
    (hop : opcodeMap.lookup (opcodeField w) = some i) : decode w = .ok i := by
  simp [decode, h, hop]

/-- R51: with the reserved bits 0, a word whose opcode does not stand in the map is rejected for it. -/
theorem decode_of_lookup_none {w : Word} (h : rsvField w = 0) (hop : opcodeMap.lookup (opcodeField w) = none) :
    decode w = .error .unknownOpcode := by
  simp [decode, h, hop]

/-- R51: one of the three cases holds of every word, and its answer is the decoder's. -/
theorem decode_cases (w : Word) :
    (rsvField w ≠ 0 ∧ decode w = .error .reservedBits)
    ∨ (∃ i, rsvField w = 0 ∧ opcodeMap.lookup (opcodeField w) = some i ∧ decode w = .ok i)
    ∨ (rsvField w = 0 ∧ opcodeMap.lookup (opcodeField w) = none ∧ decode w = .error .unknownOpcode) := by
  by_cases hrsv : rsvField w = 0
  · cases hop : opcodeMap.lookup (opcodeField w) with
    | some i => exact .inr (.inl ⟨i, hrsv, rfl, decode_of_lookup_some hrsv hop⟩)
    | none => exact .inr (.inr ⟨hrsv, rfl, decode_of_lookup_none hrsv hop⟩)
  · exact .inl ⟨hrsv, decode_of_rsvField_ne_zero hrsv⟩

/-- R52: the one word that decodes to a command is the word the encoder gives it. -/
theorem decode_eq_ok_iff (w : Word) (i : Instr) : decode w = .ok i ↔ w = encode i := by
  obtain ⟨-, hrsv, hop, -⟩ := encodingForm i
  constructor
  · intro h
    obtain ⟨-, hw⟩ | ⟨j, hrsvw, hopw, hw⟩ | ⟨-, -, hw⟩ := decode_cases w
    · simp [hw] at h
    · obtain rfl : j = i := Except.ok.inj (hw.symm.trans h)
      exact eq_of_fields (hrsvw.trans hrsv.symm) ((lookup_opcodeMap_eq_some_iff _ _).mp hopw)
    · simp [hw] at h
  · rintro rfl
    exact decode_of_lookup_some hrsv hop

/-- R51, R53: which words are rejected for their reserved bits. -/
theorem decode_eq_reservedBits_iff (w : Word) : decode w = .error .reservedBits ↔ rsvField w ≠ 0 := by
  obtain ⟨hrsv, hw⟩ | ⟨i, hrsv, -, hw⟩ | ⟨hrsv, -, hw⟩ := decode_cases w
  · exact iff_of_true hw hrsv
  · simp [hw, hrsv]
  · simp [hw, hrsv]

/-- R51, R53: which words are rejected for their opcode. -/
theorem decode_eq_unknownOpcode_iff (w : Word) :
    decode w = .error .unknownOpcode ↔ rsvField w = 0 ∧ opcodeMap.lookup (opcodeField w) = none := by
  obtain ⟨hrsv, hw⟩ | ⟨i, -, hop, hw⟩ | ⟨hrsv, hop, hw⟩ := decode_cases w
  · exact iff_of_false (by simp [hw]) fun ⟨h, _⟩ => hrsv h
  · simp only [hw, hop, reduceCtorEq, and_false]
  · exact iff_of_true hw ⟨hrsv, hop⟩

/-! ### The statements -/

/-- Settles O2: both ways, by the one word that decodes to a command. -/
theorem decodeAndEncodeAgree : Obligations.DecodeAndEncodeAgree :=
  ⟨fun i _ => (decode_eq_ok_iff (encode i) i).mpr rfl, fun w i h => ((decode_eq_ok_iff w i).mp h).symm⟩

/-- Settles O1: the encoder's word for each command is the match word written there. -/
theorem opcodeMapIsExact : Obligations.OpcodeMapIsExact := fun w =>
  ⟨decode_eq_ok_iff w .nop, decode_eq_ok_iff w .next, decode_eq_ok_iff w .mulhu, decode_eq_ok_iff w .mulhs,
    decode_eq_ok_iff w .mulu, decode_eq_ok_iff w .muls, decode_eq_ok_iff w .exp2, decode_eq_ok_iff w .log2n,
    decode_eq_ok_iff w .log2, decode_eq_ok_iff w .ln, decode_eq_ok_iff w .sqrt, decode_eq_ok_iff w .pois⟩

/-- Settles O3: the two fields as numbers, and the opcodes of the map written out. -/
theorem rejectsByReservedBitsThenOpcode : Obligations.RejectsByReservedBitsThenOpcode := by
  intro w
  constructor
  · rw [decode_eq_reservedBits_iff, ne_eq, rsvField_eq_zero_iff, not_lt]
  · rw [decode_eq_unknownOpcode_iff, rsvField_eq_zero_iff]
    refine and_congr_right fun hlt => ?_
    rw [lookup_opcodeMap_eq_none_iff, toNat_opcodeField, Nat.mod_eq_of_lt hlt]
    rfl

/-- Settles O4: four words are their commands' words, one has an opcode of no row, one a reserved bit. -/
theorem sampleWordsDecode : Obligations.SampleWordsDecode := by
  refine ⟨(decode_eq_ok_iff _ .next).mpr rfl, (decode_eq_ok_iff _ .muls).mpr rfl, (decode_eq_ok_iff _ .ln).mpr rfl,
    (decode_eq_ok_iff _ .pois).mpr rfl, ?_, ?_, ?_⟩
  · exact (decode_eq_unknownOpcode_iff _).mpr (by decide)
  · exact (decode_eq_reservedBits_iff _).mpr (by decide)
  · exact congrArg Except.toOption ((decode_eq_ok_iff 0x24#64 .sqrt).mpr rfl)

end Sys2Proof.Proofs.Encoding

/-! PROOFS. The raw draw and the stream it moves: the function of R61 on numbers, `NEXT` (R62), the count of draws
(R64), and how far a step of the machine can move the stream (spec/40_control_stream.md). -/

namespace Sys2Proof.Proofs.Stream

open Sys2Proof.Machine
open Sys2Proof.Proofs.HiddenState (runs_succ_of_next)
open Sys2Proof.Proofs.CommandFrame (commandsWriteOnlyTheirResults)

/-! ### The raw draw on numbers -/

/-- R65: the 128 bits hold the product of two words. -/
theorem toNat_product (a b : Word) : (product a b).toNat = a.toNat * b.toNat := by
  have hlt : a.toNat * b.toNat < 2 ^ 128 := Nat.mul_lt_mul'' (c := 2 ^ 64) (d := 2 ^ 64) a.isLt b.isLt
  rw [product, BitVec.toNat_ofNat, Nat.mod_eq_of_lt hlt]

theorem highWord_product (a b : Word) : highWord (product a b) = BitVec.ofNat 64 (a.toNat * b.toNat / 2 ^ 64) := by
  apply BitVec.eq_of_toNat_eq
  rw [highWord, BitVec.extractLsb'_toNat, toNat_product, BitVec.toNat_ofNat, Nat.shiftRight_eq_div_pow]

theorem lowWord_product (a b : Word) : lowWord (product a b) = BitVec.ofNat 64 (a.toNat * b.toNat % 2 ^ 64) := by
  apply BitVec.eq_of_toNat_eq
  rw [lowWord, BitVec.extractLsb'_toNat, toNat_product, BitVec.toNat_ofNat, Nat.shiftRight_zero, Nat.mod_mod]

/-- R61: a round on numbers: the exact product, its halves, their xor. -/
theorem mixRound_eq (x m : Word) :
    mixRound x m = BitVec.ofNat 64 (x.toNat * m.toNat / 2 ^ 64) ^^^ BitVec.ofNat 64 (x.toNat * m.toNat % 2 ^ 64) := by
  rw [mixRound, highWord_product, lowWord_product]

/-- R61: the output is two rounds of mixing of the incremented state. -/
theorem nextRaw_fst (p : Params) (st : Word) :
    (nextRaw p st).1 = mixRound (mixRound (st + p.prngInc) p.prngMul1) p.prngMul2 := rfl

/-- R7: the default increment. -/
theorem params_prngInc : params.prngInc = 0x60BEE2BEE120FC15#64 := rfl

/-- R7: the default multipliers, as numbers. -/
theorem toNat_params_prngMul1 : params.prngMul1.toNat = 0xA3B195354A39B70D := rfl
theorem toNat_params_prngMul2 : params.prngMul2.toNat = 0x1B03738712FAD5C9 := rfl

/-! ### NEXT -/

/-- R62: on a seeded block, one draw into `RES0`. -/
theorem exec_next_of_seeded {s : State} (h : s.status.seeded = true) :
    exec .next s = .next (completeRes0 (nextRaw params s.stream).1 (setStream (s.stream + params.prngInc) s)) :=
  if_neg (by simp [h])

/-- R62, R133: on a block without a seed, the fault, wherever the sampler is. -/
theorem exec_next_of_unseeded {s : State} (h : s.status.seeded = false) :
    exec .next s = .next (raiseFault .noSeed s) :=
  if_pos h

/-- R60, R62: a draw into `RES0` writes the stream, the result and the flags of a completion. Both words are
variables, so that no sum of words is compared by counting. -/
theorem sameButPosition_drawn (v st : Word) (s : State) :
    SameButPosition (completeRes0 v (setStream st s))
      { s with stream := st, res0 := v, status := { s.status with busy := false, done := true } } := rfl

/-- Settles O23: the draw of R61 with both rounds on numbers, or the fault. -/
theorem nextDrawsOnce : Obligations.NextDrawsOnce := by
  intro s s' t1 m1 t2 m2
  refine ⟨fun h => ⟨_, exec_next_of_seeded h, ?_⟩, fun h => ⟨_, exec_next_of_unseeded h, rfl⟩⟩
  have hm1 : mixRound s' params.prngMul1 = m1 := by rw [mixRound_eq, toNat_params_prngMul1]
  have hm2 : mixRound m1 params.prngMul2 = m2 := by rw [mixRound_eq, toNat_params_prngMul2]
  rw [nextRaw_fst, params_prngInc, hm1, hm2]
  exact sameButPosition_drawn _ _ s

/-! ### The count of draws -/

/-- R64 (a): each draw adds the increment. -/
theorem streamAfter_eq (p : Params) (st : Word) (j : Nat) :
    streamAfter p st j = st + BitVec.ofNat 64 j * p.prngInc := by
  induction j generalizing st with
  | zero => simp [streamAfter]
  | succ j ih =>
    have hone : BitVec.ofNat 64 1 = 1 := rfl
    rw [streamAfter, ih, nextRaw_snd, BitVec.ofNat_add, hone]
    ring

/-- Draws in a row add up. -/
theorem streamAfter_add (p : Params) (st : Word) (i j : Nat) :
    streamAfter p st (i + j) = streamAfter p (streamAfter p st i) j := by
  simp only [streamAfter_eq, BitVec.ofNat_add]
  ring

/-- An odd word has an inverse modulo `2^64`. -/
theorem exists_mul_eq_one_of_odd {a : Word} (h : a.toNat % 2 = 1) : ∃ b : Word, a * b = 1 := by
  have hcop : Nat.Coprime a.toNat (2 ^ 64) := (Nat.odd_iff.mpr h).coprime_two_right.pow_right 64
  obtain ⟨m, -, hm⟩ := Nat.exists_mul_mod_eq_one_of_coprime hcop (by decide)
  refine ⟨BitVec.ofNat 64 m, BitVec.eq_of_toNat_eq ?_⟩
  rw [BitVec.toNat_mul, BitVec.toNat_ofNat, Nat.mul_mod_mod, hm]
  rfl

/-- R7: in a valid build the increment is odd. -/
theorem prngInc_odd {p : Params} (h : p.streamOk = true) : p.prngInc.toNat % 2 = 1 := by
  simp only [Params.streamOk, Bool.and_eq_true, beq_iff_eq] at h
  obtain ⟨⟨⟨hinc, -⟩, -⟩, -⟩ := h
  exact hinc

/-- R64 (d): the inverse of the increment reads the number of draws off the stream. -/
theorem streamAfter_sub_mul_inv {p : Params} {inv : Word} (hinv : p.prngInc * inv = 1) (st : Word) (j : Nat) :
    (streamAfter p st j - st) * inv = BitVec.ofNat 64 j := by
  calc (streamAfter p st j - st) * inv
      = BitVec.ofNat 64 j * (p.prngInc * inv) := by rw [streamAfter_eq]; ring
    _ = BitVec.ofNat 64 j := by rw [hinv, mul_one]

/-- Settles O26: the increment has an inverse, which counts the draws; a return to the start would be counted
as no draw. -/
theorem streamHasFullPeriod : Obligations.StreamHasFullPeriod := by
  intro p hp
  obtain ⟨inv, hinv⟩ := exists_mul_eq_one_of_odd (prngInc_odd hp)
  have hcount (st : Word) (j : Nat) (hj : j < 2 ^ 64) : ((streamAfter p st j - st) * inv).toNat = j := by
    rw [streamAfter_sub_mul_inv hinv, BitVec.toNat_ofNat, Nat.mod_eq_of_lt hj]
  refine ⟨streamAfter_eq p, fun st j hpos hj hback => ?_, inv, hcount⟩
  have hzero : 0 = j := by simpa [hback] using hcount st j hj
  exact hpos.ne hzero

/-! ### How far a step moves the stream -/

/-- R91: the first step of `POIS` makes no draw. -/
theorem poisStart_stream (p : Params) (s : State) : (poisStart p s).stream = s.stream := by
  obtain ⟨-, h⟩ | ⟨-, -, h⟩ | ⟨-, -, ⟨-, h⟩ | ⟨-, -, h⟩ | ⟨-, -, -, h⟩ | ⟨-, -, -, h⟩⟩ := poisStart_cases p s <;>
    (rw [h]; rfl)

/-- R94: an iteration of the scalar loop makes one draw. -/
theorem scalarIter_stream (p : Params) (s : State) : (scalarIter p s).stream = streamAfter p s.stream 1 := by
  obtain ⟨w, -, ⟨-, h⟩ | ⟨-, h⟩⟩ := scalarIter_cases p s <;> (rw [h]; rfl)

/-- R98, R102: an iteration of the 16-lane loop makes four draws. -/
theorem lanesIter_stream (p : Params) (s : State) : (lanesIter p s).stream = streamAfter p s.stream 4 := by
  obtain ⟨x, -, t, rfl, ⟨-, h⟩ | ⟨-, i, -, h⟩⟩ := lanesIter_cases p s <;> (rw [h]; rfl)

/-- R121: an iteration of the PTRS loop makes one draw on the fast path and two on the slow path. -/
theorem ptrsIter_stream (p : Params) (s : State) :
    (ptrsIter p s).stream = streamAfter p s.stream 1 ∨ (ptrsIter p s).stream = streamAfter p s.stream 2 := by
  obtain ⟨w, -, ⟨-, h⟩ | ⟨-, ⟨v, accepted⟩, -, h⟩⟩ := ptrsIter_cases p s
  · rw [h]; exact .inl rfl
  · cases accepted <;> (rw [h]; exact .inr rfl)

/-- R61: a block step of a command makes at most four draws. -/
theorem exec_stream {i : Instr} {s t : State} (h : exec i s = .next t) :
    ∃ j ≤ 4, t.stream = streamAfter params s.stream j := by
  by_cases hi : i = .pois
  · obtain ⟨-, rfl⟩ | ⟨-, rfl⟩ | ⟨-, rfl⟩ | ⟨-, rfl⟩ := exec_pois_cases s t (hi ▸ h)
    · exact ⟨0, by omega, poisStart_stream params s⟩
    · exact ⟨1, by omega, scalarIter_stream params s⟩
    · exact ⟨4, by omega, lanesIter_stream params s⟩
    · obtain hone | htwo := ptrsIter_stream params s
      · exact ⟨1, by omega, hone⟩
      · exact ⟨2, by omega, htwo⟩
  · obtain ⟨c, -, -, rfl⟩ | ⟨r0, r1, rfl, -, -⟩ | ⟨-, -, rfl⟩ := exec_simple_cases i s t hi h
    · exact ⟨0, by omega, rfl⟩
    · exact ⟨0, by omega, rfl⟩
    · exact ⟨1, by omega, rfl⟩

/-- R60: a move of the block writes nothing of the model's bookkeeping. -/
theorem blockTurn_env {s t : State} (h : blockTurn s = .next t) : t.env = s.env := by
  obtain ⟨-, rfl⟩ | ⟨-, i, -, hexec⟩ | ⟨-, -, rfl⟩ := blockTurn_cases s t h
  · rfl
  · obtain ⟨-, -, -, henv, -⟩ := commandsWriteOnlyTheirResults i s t hexec
    exact henv
  · rfl

/-- R60, R64: a move of the block makes at most four draws. -/
theorem blockTurn_stream {s t : State} (h : blockTurn s = .next t) :
    ∃ j ≤ 4, t.stream = streamAfter params s.stream j := by
  obtain ⟨-, rfl⟩ | ⟨-, i, -, hexec⟩ | ⟨-, -, rfl⟩ := blockTurn_cases s t h
  · exact ⟨0, by omega, rfl⟩
  · exact exec_stream hexec
  · exact ⟨0, by omega, rfl⟩

/-- With nothing on the schedule the block moves. -/
theorem step_of_no_agenda {s : State} (h : s.env.agenda = []) : step s = blockTurn s := by
  simp only [step, h]

/-- R64: in a run without a schedule every step makes at most four draws. -/
theorem runs_stream (k : Nat) (s : State) (hag : s.env.agenda = []) :
    ∃ t j, runs k s = .next t ∧ j ≤ 4 * k ∧ t.stream = streamAfter params s.stream j := by
  induction k generalizing s with
  | zero => exact ⟨s, 0, rfl, by omega, rfl⟩
  | succ k ih =>
    obtain ⟨u, hturn⟩ := blockTurn_answers s
    obtain ⟨i, hi, hu⟩ := blockTurn_stream hturn
    obtain ⟨t, j, hrun, hj, ht⟩ := ih u (by rw [blockTurn_env hturn, hag])
    have hstep : step s = .next u := (step_of_no_agenda hag).trans hturn
    exact ⟨t, i + j, (runs_succ_of_next hstep k).trans hrun, by omega, by rw [ht, hu, streamAfter_add]⟩

/-- Settles O25: the run's draws, each of the default increment. -/
theorem streamMovesByDraws : Obligations.StreamMovesByDraws := by
  intro k s hag
  obtain ⟨t, j, hrun, hj, ht⟩ := runs_stream k s hag
  exact ⟨t, j, hrun, hj, by rw [ht, streamAfter_eq, params_prngInc]⟩

end Sys2Proof.Proofs.Stream

/-! PROOFS. The life of a command: when the block moves, what it runs, and that it rests while idle
(spec/40_control_stream.md R60, R63). -/

namespace Sys2Proof.Proofs.BlockMoves

open Sys2Proof.Machine Sys2Proof.Proofs.Stream
open Sys2Proof.Proofs.Port (step_of_agenda readValue_regOffset)
open Sys2Proof.Proofs.Encoding (decode_eq_ok_iff)

/-! ### A move of the block -/

/-- R60: a running block runs the command its word decodes to. -/
theorem blockTurn_of_decode {s : State} {i : Instr} (hbusy : s.status.busy = true) (hdecode : decode s.cmd = .ok i) :
    blockTurn s = exec i s := by
  simp only [blockTurn, hbusy, hdecode, if_true]

/-- R60: an idle block stays as it is. -/
theorem blockTurn_of_idle {s : State} (h : s.status.busy = false) : blockTurn s = .next s :=
  if_neg (by simp [h])

/-- A block step on the schedule is taken off it, and the block moves. -/
theorem step_of_block {s : State} {rest : List Event} (h : s.env.agenda = .block :: rest) :
    step s = blockTurn (setAgenda rest s) :=
  step_of_agenda h

/-- R56: a poll that finds the block busy stays on the schedule, and the block moves. -/
theorem step_of_wait_busy {s : State} {rest : List Event} (h : s.env.agenda = .wait :: rest)
    (hbusy : s.status.busy = true) :
    step s = blockTurn (setAgenda (.wait :: rest) (hostRead (regOffset .status) s)) :=
  (step_of_agenda h).trans (if_pos hbusy)

/-- R43: a read of `STATUS` tells the host the flags and uses up no free value. -/
theorem hostRead_status (s : State) :
    hostRead (regOffset .status) s = setEnv { s.env with readLog := statusWord s.status :: s.env.readLog } s := by
  have hvalue : readValue (regOffset .status) s = statusWord s.status := readValue_regOffset .status s
  rw [hostRead, hvalue]
  rfl

/-- Settles O6: the three steps in which the block moves, none of which touches `BUSY` or `CMD` before. -/
theorem blockStepRunsDecodedCommand : Obligations.BlockStepRunsDecodedCommand := by
  intro s i _ hbusy hdecode
  refine ⟨fun hag => ?_, fun rest hag => ?_, fun rest hag => ?_⟩
  · rw [step_of_no_agenda hag]
    exact blockTurn_of_decode hbusy hdecode
  · rw [step_of_block hag]
    exact blockTurn_of_decode hbusy hdecode
  · rw [step_of_wait_busy hag hbusy, hostRead_status]
    exact blockTurn_of_decode hbusy hdecode

/-- Settles O8: the idle block, with and without a block step to take off the schedule. -/
theorem idleBlockDoesNothing : Obligations.IdleBlockDoesNothing := by
  intro s hidle
  refine ⟨fun hag => ?_, fun rest hag => ?_⟩
  · rw [step_of_no_agenda hag]
    exact blockTurn_of_idle hidle
  · rw [step_of_block hag]
    exact blockTurn_of_idle hidle

/-! ### A placed word -/

/-- The placement is undone by the step it asks for: the block moves, and the schedule is what it was. -/
theorem step_blockNext (s : State) : step (blockNext s) = blockTurn s := by
  unfold blockNext
  split
  · next hag => exact step_of_no_agenda hag
  · exact step_of_block (rest := s.env.agenda) rfl

/-- A row of 64 bits is its word. -/
theorem tableWord_toNat (w : Word) : tableWord 64 w.toNat = w := by
  rw [tableWord, Nat.mod_eq_of_lt w.isLt, BitVec.ofNat_toNat, BitVec.setWidth_eq]

/-- Settles O7: the word is accepted, and the next step is the block's, which runs the command of the word. -/
theorem placedWordRunsNext : Obligations.PlacedWordRunsNext := by
  intro s i
  rw [State.withFetchWord, tableWord_toNat, placeCommand, step_blockNext]
  exact blockTurn_of_decode (by simp) ((decode_eq_ok_iff _ i).mpr (issue_cmd _ _))

/-! ### NOP -/

/-- R63: `NOP` is a completion. -/
theorem exec_nop (s : State) : exec .nop s = .next (complete s) := rfl

/-- Settles O22: a completion without a result writes `BUSY` and `DONE`. -/
theorem nopOnlyCompletes : Obligations.NopOnlyCompletes := fun s => ⟨complete s, exec_nop s, rfl⟩

end Sys2Proof.Proofs.BlockMoves

/-! PROOFS. The wide multiplier: both exact products, their high and low words, and the four commands that
return them (spec/41_multiply.md R65 to R69). -/

namespace Sys2Proof.Proofs.Multiply

open Sys2Proof.Machine Sys2Proof.Proofs.Stream

/-! ### The halves of a 128-bit pattern -/

/-- R65: the upper half of a two's-complement pattern is the floor of its number by `2^64`. -/
theorem highWord_ofInt (v : Int) : highWord (BitVec.ofInt 128 v) = BitVec.ofInt 64 (v / 2 ^ 64) := by
  apply BitVec.eq_of_toNat_eq
  rw [highWord, BitVec.extractLsb'_toNat, BitVec.toNat_ofInt, BitVec.toNat_ofInt, Nat.shiftRight_eq_div_pow]
  omega

/-- R65: the lower half of a two's-complement pattern is that of its number. -/
theorem lowWord_ofInt (v : Int) : lowWord (BitVec.ofInt 128 v) = BitVec.ofInt 64 v := by
  apply BitVec.eq_of_toNat_eq
  rw [lowWord, BitVec.extractLsb'_toNat, BitVec.toNat_ofInt, BitVec.toNat_ofInt, Nat.shiftRight_zero]
  omega

/-- R17 `u64`: a multiple of `2^64` does not show in a word. -/
theorem ofInt_emod_word (v : Int) : BitVec.ofInt 64 (v % 2 ^ 64) = BitVec.ofInt 64 v := by
  apply BitVec.eq_of_toNat_eq
  rw [BitVec.toNat_ofInt, BitVec.toNat_ofInt]
  omega

/-! ### The unsigned product -/

theorem unsigned_mul_le (a b : Word) : a.toNat * b.toNat ≤ (2 ^ 64 - 1) ^ 2 := by
  rw [pow_two]
  exact Nat.mul_le_mul (Nat.le_sub_one_of_lt a.isLt) (Nat.le_sub_one_of_lt b.isLt)

/-- R65: the high part of the product fits a word. -/
theorem unsigned_high_lt (a b : Word) : a.toNat * b.toNat / 2 ^ 64 < 2 ^ 64 :=
  Nat.div_lt_of_lt_mul (Nat.mul_lt_mul'' a.isLt b.isLt)

theorem toNat_highWord_product (a b : Word) : (highWord (product a b)).toNat = a.toNat * b.toNat / 2 ^ 64 := by
  rw [highWord_product, BitVec.toNat_ofNat, Nat.mod_eq_of_lt (unsigned_high_lt a b)]

theorem toNat_lowWord_product (a b : Word) : (lowWord (product a b)).toNat = a.toNat * b.toNat % 2 ^ 64 := by
  rw [lowWord_product, BitVec.toNat_ofNat, Nat.mod_mod]

/-! ### The signed product -/

theorem toNat_signedProduct (a b : Word) : ((signedProduct a b).toNat : Int) = a.toInt * b.toInt % 2 ^ 128 := by
  rw [signedProduct, BitVec.toNat_ofInt, Int.toNat_of_nonneg (Int.emod_nonneg _ (by decide))]
  rfl

theorem highWord_signedProduct (a b : Word) :
    highWord (signedProduct a b) = BitVec.ofInt 64 (a.toInt * b.toInt / 2 ^ 64) :=
  highWord_ofInt _

theorem lowWord_signedProduct (a b : Word) : lowWord (signedProduct a b) = BitVec.ofInt 64 (a.toInt * b.toInt) :=
  lowWord_ofInt _

/-- R65: a word read as two's complement has at most 63 magnitude bits, but for the least. -/
theorem abs_toInt_lt {a : Word} (h : a ≠ 0x8000000000000000#64) : |a.toInt| ≤ 2 ^ 63 - 1 := by
  have hne : a.toInt ≠ -2 ^ 63 := fun h0 => h (BitVec.eq_of_toInt_eq h0)
  have hlow := BitVec.le_toInt a
  have hhigh := BitVec.toInt_lt (x := a)
  exact abs_le.mpr ⟨by omega, by omega⟩

theorem abs_toInt_le (a : Word) : |a.toInt| ≤ 2 ^ 63 :=
  abs_le.mpr ⟨BitVec.le_toInt a, (BitVec.toInt_lt (x := a)).le⟩

/-- R65: a signed product with a factor that is not the least word keeps clear of `2^126`. -/
theorem abs_signed_mul_lt {a : Word} (h : a ≠ 0x8000000000000000#64) (b : Word) :
    |a.toInt * b.toInt| < 2 ^ 126 :=
  calc |a.toInt * b.toInt| = |a.toInt| * |b.toInt| := abs_mul _ _
    _ ≤ (2 ^ 63 - 1) * 2 ^ 63 := mul_le_mul (abs_toInt_lt h) (abs_toInt_le b) (abs_nonneg _) (by decide)
    _ < 2 ^ 126 := by decide

/-- R65: the only pair that needs all the magnitude bits is the least word with itself. -/
theorem signed_mul_extreme_iff (a b : Word) :
    2 ^ 126 ≤ |a.toInt * b.toInt| ↔ a = 0x8000000000000000#64 ∧ b = 0x8000000000000000#64 := by
  refine ⟨fun h => ⟨?_, ?_⟩, fun ⟨ha, hb⟩ => by subst ha hb; decide⟩
  · by_contra ha
    exact h.not_gt (abs_signed_mul_lt ha b)
  · by_contra hb
    rw [mul_comm] at h
    exact h.not_gt (abs_signed_mul_lt hb a)

/-- R65: the extreme pair has a positive product, so the lower bound is not reached. -/
theorem signed_mul_bounds (a b : Word) : -2 ^ 126 < a.toInt * b.toInt ∧ a.toInt * b.toInt ≤ 2 ^ 126 := by
  by_cases h : 2 ^ 126 ≤ |a.toInt * b.toInt|
  · obtain ⟨ha, hb⟩ := (signed_mul_extreme_iff a b).mp h
    subst ha hb
    decide
  · obtain ⟨hlow, hhigh⟩ := abs_lt.mp (not_le.mp h)
    exact ⟨hlow, hhigh.le⟩

/-- R65: the high part of the signed product, well inside a signed word. -/
theorem signed_high_bounds (a b : Word) :
    -2 ^ 62 ≤ a.toInt * b.toInt / 2 ^ 64 ∧ a.toInt * b.toInt / 2 ^ 64 ≤ 2 ^ 62 := by
  obtain ⟨hlow, hhigh⟩ := signed_mul_bounds a b
  omega

theorem toInt_highWord_signedProduct (a b : Word) :
    (highWord (signedProduct a b)).toInt = a.toInt * b.toInt / 2 ^ 64 := by
  obtain ⟨hlow, hhigh⟩ := signed_high_bounds a b
  rw [highWord_signedProduct]
  exact BitVec.toInt_ofInt_eq_self (by decide) (by omega) (by omega)

theorem toNat_lowWord_signedProduct (a b : Word) :
    ((lowWord (signedProduct a b)).toNat : Int) = a.toInt * b.toInt % 2 ^ 64 := by
  rw [lowWord_signedProduct, BitVec.toNat_ofInt, Int.toNat_of_nonneg (Int.emod_nonneg _ (by decide))]
  rfl

/-- R65: an operand 0 makes both words 0. -/
theorem signedProduct_eq_zero {a b : Word} (h : a = 0 ∨ b = 0) : signedProduct a b = 0 := by
  have hmul : s64 a * s64 b = 0 := mul_eq_zero.mpr (h.imp (by rintro rfl; rfl) (by rintro rfl; rfl))
  rw [signedProduct, hmul]
  rfl

/-! ### The signed words from the unsigned ones -/

/-- R65: `s64(a) ≡ a (mod 2^64)`, so both low words are the product of the patterns. -/
theorem lowWord_signedProduct_eq (a b : Word) : lowWord (signedProduct a b) = lowWord (product a b) :=
  calc lowWord (signedProduct a b) = BitVec.ofInt 64 (a.toInt * b.toInt) := lowWord_signedProduct a b
    _ = a * b := by rw [BitVec.ofInt_mul, BitVec.ofInt_toInt, BitVec.ofInt_toInt]
    _ = lowWord (product a b) := BitVec.eq_of_toNat_eq (by rw [BitVec.toNat_mul, toNat_lowWord_product])

/-- R17 `u64` keeps differences. -/
theorem ofInt_word_sub (u v : Int) : BitVec.ofInt 64 (u - v) = BitVec.ofInt 64 u - BitVec.ofInt 64 v :=
  eq_sub_of_add_eq (by rw [← BitVec.ofInt_add, sub_add_cancel])

/-- R65: the sign bit of a word, as the number by which its two readings differ. -/
def signBit (a : Word) : Int := if a.getLsbD 63 then 1 else 0

/-- R65: `s64(a) = a − 2^64·a[63]`. -/
theorem toInt_eq_sub_signBit (a : Word) : a.toInt = a.toNat - 2 ^ 64 * signBit a := by
  rw [BitVec.toInt_eq_msb_cond, BitVec.msb_eq_getLsbD_last, signBit]
  split <;> simp

theorem ofInt_signBit_mul (a b : Word) :
    BitVec.ofInt 64 (signBit a * b.toNat) = if a.getLsbD 63 then b else 0 := by
  rw [signBit]
  split <;> simp

/-- The high part of a product whose factors are corrected by multiples of `2^64`. -/
theorem corrected_mul_ediv (m n α β : Int) :
    (m - 2 ^ 64 * α) * (n - 2 ^ 64 * β) / 2 ^ 64 = m * n / 2 ^ 64 - α * n - β * m + α * β * 2 ^ 64 := by
  have hsplit : (m - 2 ^ 64 * α) * (n - 2 ^ 64 * β) =
      m * n + (-(α * n) - β * m + α * β * 2 ^ 64) * 2 ^ 64 := by ring
  rw [hsplit, Int.add_mul_ediv_right _ _ (by decide)]
  ring

/-- R65: `hi_s = u64(hi_u − (a[63] ? b : 0) − (b[63] ? a : 0))`. -/
theorem highWord_signedProduct_eq (a b : Word) :
    highWord (signedProduct a b) =
      highWord (product a b) - (if a.getLsbD 63 then b else 0) - (if b.getLsbD 63 then a else 0) := by
  have hunsigned : BitVec.ofInt 64 ((a.toNat : Int) * b.toNat / 2 ^ 64) = highWord (product a b) := by
    rw [highWord_product, ← BitVec.ofInt_natCast]
    push_cast
    rfl
  have hwrap : BitVec.ofInt 64 (2 ^ 64) = 0 := by decide
  rw [highWord_signedProduct, toInt_eq_sub_signBit, toInt_eq_sub_signBit b, corrected_mul_ediv, BitVec.ofInt_add,
    BitVec.ofInt_mul _ (2 ^ 64), hwrap, ofInt_word_sub, ofInt_word_sub, ofInt_signBit_mul, ofInt_signBit_mul,
    hunsigned, mul_zero, add_zero]

/-! ### The sign of the signed high word -/

theorem getLsbD_sign (a : Word) : a.getLsbD 63 = decide (a.toInt < 0) := by
  rw [← BitVec.msb_eq_toInt, BitVec.msb_eq_getLsbD_last]

/-- R65: both operands negative, or both not. -/
theorem signed_mul_nonneg {a b : Word} (h : a.getLsbD 63 = b.getLsbD 63) : 0 ≤ a.toInt * b.toInt := by
  rw [getLsbD_sign, getLsbD_sign, decide_eq_decide] at h
  by_cases ha : a.toInt < 0
  · exact mul_nonneg_of_nonpos_of_nonpos ha.le (h.mp ha).le
  · exact mul_nonneg (not_lt.mp ha) (not_lt.mp (mt h.mpr ha))

/-- R65: operands of opposite sign, neither of them 0. -/
theorem signed_mul_neg {a b : Word} (h : a.getLsbD 63 ≠ b.getLsbD 63) (ha0 : a ≠ 0) (hb0 : b ≠ 0) :
    a.toInt * b.toInt < 0 := by
  have ha : a.toInt ≠ 0 := fun h0 => ha0 (BitVec.eq_of_toInt_eq h0)
  have hb : b.toInt ≠ 0 := fun h0 => hb0 (BitVec.eq_of_toInt_eq h0)
  rw [getLsbD_sign, getLsbD_sign, Ne, decide_eq_decide] at h
  rcases lt_or_gt_of_ne ha with hneg | hpos
  · exact mul_neg_of_neg_of_pos hneg (by omega)
  · exact mul_neg_of_pos_of_neg hpos (by omega)

/-- Settles O29: the laws of R65, one lemma each. -/
theorem multiplierKeepsItsLaws : Obligations.MultiplierKeepsItsLaws := by
  intro a b P Ps
  obtain ⟨hlow, hhigh⟩ := signed_mul_bounds a b
  obtain ⟨-, hword⟩ := signed_high_bounds a b
  refine ⟨unsigned_mul_le a b, toNat_highWord_product a b, toNat_lowWord_product a b, hlow, hhigh,
    toNat_signedProduct a b, toInt_highWord_signedProduct a b, toNat_lowWord_signedProduct a b,
    lowWord_signedProduct_eq a b, highWord_signedProduct_eq a b, fun hsame => ?_, fun hopp ha hb => ?_,
    fun hzero => ?_, signed_mul_extreme_iff a b⟩
  · rw [toInt_highWord_signedProduct]
    exact ⟨Int.ediv_nonneg (signed_mul_nonneg hsame) (by decide), hword⟩
  · have hneg : Ps < 0 := signed_mul_neg hopp ha hb
    rw [toInt_highWord_signedProduct]
    refine ⟨Int.ediv_neg_of_neg_of_pos hneg (by decide), fun habs => ?_⟩
    have hnear : -2 ^ 64 ≤ Ps := (abs_le.mp habs).1
    change Ps / 2 ^ 64 = -1
    omega
  · rw [signedProduct_eq_zero hzero]
    exact ⟨rfl, rfl⟩

/-! ### The commands -/

/-- R66: `MULHU` is a completion with one unsigned word. -/
theorem exec_mulhu (s : State) : exec .mulhu s = .next (completeRes0 (highWord (product s.opa s.opb)) s) := rfl

/-- R67: `MULHS` is a completion with one signed word. -/
theorem exec_mulhs (s : State) :
    exec .mulhs s = .next (completeRes0 (highWord (signedProduct s.opa s.opb)) s) := rfl

/-- R68: `MULU` is a completion with both words of the unsigned product. -/
theorem exec_mulu (s : State) :
    exec .mulu s = .next (completeBoth (highWord (product s.opa s.opb)) (lowWord (product s.opa s.opb)) s) := rfl

/-- R69: `MULS` is a completion with both words of the signed product. -/
theorem exec_muls (s : State) :
    exec .muls s =
      .next (completeBoth (highWord (signedProduct s.opa s.opb)) (lowWord (signedProduct s.opa s.opb)) s) := rfl

/-- R22, R60: a completion with one result writes it and the two flags. -/
theorem answersAs_completeRes0 (v : Word) (s : State) :
    AnswersAs (.next (completeRes0 v s))
      { s with res0 := v, status := { s.status with busy := false, done := true } } :=
  ⟨_, rfl, rfl⟩

/-- R22, R60: a completion with two results writes both in the same step, and the two flags. -/
theorem answersAs_completeBoth (hi lo : Word) (s : State) :
    AnswersAs (.next (completeBoth hi lo s))
      { s with res0 := hi, res1 := lo, status := { s.status with busy := false, done := true } } :=
  ⟨_, rfl, rfl⟩

/-- Settles O27: both commands complete with the words of the exact product. -/
theorem unsignedProductIsExact : Obligations.UnsignedProductIsExact := by
  intro s P
  refine ⟨?_, ?_, unsigned_high_lt s.opa s.opb⟩
  · rw [exec_mulhu, highWord_product]
    exact answersAs_completeRes0 _ s
  · rw [exec_mulu, highWord_product, lowWord_product]
    exact answersAs_completeBoth _ _ s

/-- Settles O28: both commands complete with the floor and the remainder of the exact product. -/
theorem signedProductIsExact : Obligations.SignedProductIsExact := by
  intro s P
  obtain ⟨hlow, hhigh⟩ := signed_high_bounds s.opa s.opb
  refine ⟨?_, ?_, Int.lt_add_one_of_le hlow, hhigh⟩
  · rw [exec_mulhs, highWord_signedProduct]
    exact answersAs_completeRes0 _ s
  · rw [exec_muls, highWord_signedProduct, lowWord_signedProduct,
      ← ofInt_emod_word (s.opa.toInt * s.opb.toInt)]
    exact answersAs_completeBoth _ _ s

end Sys2Proof.Proofs.Multiply

/-! PROOFS. The base-2 exponential: its Horner evaluation, its range, and the command (spec/42_elementary.md
R72, R73). -/

namespace Sys2Proof.Proofs.Exponential

open Sys2Proof.Machine
open Sys2Proof.Proofs.Normalised (expFix_range)
open Sys2Proof.Proofs.Multiply (answersAs_completeRes0)

/-! ### The range -/

/-- R72: under R8 the accumulator is a normalised 64-bit value. -/
theorem expAcc_range {p : Params} (hp : p.exp2Ok = true) {x : Nat} (hx : x < 2 ^ 32) :
    2 ^ 63 ≤ expAcc p x ∧ expAcc p x < 2 ^ 64 := by
  obtain ⟨hlow, hhigh⟩ := expFix_range hp hx
  unfold expFix at hlow hhigh
  omega

/-- Settles O31: the accumulator's range, and its upper half. -/
theorem exp2StaysInRange : Obligations.Exp2StaysInRange := by
  intro p x hp hx
  obtain ⟨hlow, hhigh⟩ := expAcc_range hp hx
  exact ⟨hlow, hhigh, expFix_range hp hx⟩

/-! ### The default coefficients, as numbers (R8) -/

theorem toNat_params_exp2C0 : params.exp2C0.toNat = 0x80001F13478510A6 := rfl
theorem toNat_params_exp2C1 : params.exp2C1.toNat = 0x58B31D290BBAC45D := rfl
theorem toNat_params_exp2C2 : params.exp2C2.toNat = 0x1EEE0232E1840CA6 := rfl
theorem toNat_params_exp2C3 : params.exp2C3.toNat = 0x069DCA270A78863C := rfl
theorem toNat_params_exp2C4 : params.exp2C4.toNat = 0x01C0D856793E8772 := rfl

/-! ### The command -/

/-- R135: a fault writes the cause and the flags. -/
theorem answersAs_raiseFault (c : Cause) (s : State) :
    AnswersAs (.next (raiseFault c s))
      { s with cause := c, status := { s.status with err := true, busy := false, done := false } } :=
  ⟨_, rfl, rfl⟩

/-- The upper half of a word is 0 exactly when the word is a 32-bit number. -/
theorem highBits_eq_zero_iff (v : Word) : v.extractLsb' 32 32 = 0#32 ↔ v.toNat < 2 ^ 32 := by
  have hv := v.isLt
  rw [← BitVec.toNat_inj, BitVec.extractLsb'_toNat, Nat.shiftRight_eq_div_pow, BitVec.toNat_ofNat]
  omega

/-- R17 `zext_32` of a number that fits 32 bits. -/
theorem zext32_ofNat {n : Nat} (h : n < 2 ^ 32) : zext32 (BitVec.ofNat 32 n) = BitVec.ofNat 64 n := by
  apply BitVec.eq_of_toNat_eq
  rw [zext32, BitVec.toNat_setWidth, BitVec.toNat_ofNat, BitVec.toNat_ofNat, Nat.mod_eq_of_lt h]

/-- R73: in its domain `EXP2` completes with the function of its operand. -/
theorem exec_exp2_of_lt {s : State} (h : s.opa.toNat < 2 ^ 32) :
    exec .exp2 s = .next (completeRes0 (BitVec.ofNat 64 (expFix params s.opa.toNat)) s) := by
  have hlow : (s.opa.extractLsb' 0 32).toNat = s.opa.toNat := by
    rw [BitVec.extractLsb'_toNat, Nat.shiftRight_zero, Nat.mod_eq_of_lt h]
  have hfix := (expFix_range Scope.params_exp2Ok h).2
  rw [← zext32_ofNat hfix, ← hlow]
  exact if_neg (not_not.mpr ((highBits_eq_zero_iff _).mpr h))

/-- R73: outside its domain `EXP2` faults. -/
theorem exec_exp2_of_le {s : State} (h : 2 ^ 32 ≤ s.opa.toNat) :
    exec .exp2 s = .next (raiseFault .domain s) :=
  if_pos (mt (highBits_eq_zero_iff _).mp (not_lt.mpr h))

/-- Settles O30: the function of R72 with the default coefficients, or the fault. -/
theorem exp2EvaluatesItsPolynomial : Obligations.Exp2EvaluatesItsPolynomial := by
  intro s
  refine ⟨fun h => ?_, fun h => ?_⟩
  · rw [exec_exp2_of_lt h, expFix, expAcc]
    simp only [hornerStep, toNat_params_exp2C0, toNat_params_exp2C1, toNat_params_exp2C2, toNat_params_exp2C3,
      toNat_params_exp2C4]
    exact answersAs_completeRes0 _ s
  · rw [exec_exp2_of_le h]
    exact answersAs_raiseFault .domain s

end Sys2Proof.Proofs.Exponential

/-! PROOFS. The base-2 logarithm of a mantissa, and the logarithms built on it: the bounds of the datapath, the
split into exponent and fraction, and the three commands (spec/42_elementary.md R75 to R81). -/

namespace Sys2Proof.Proofs.Logarithm

open Sys2Proof.Machine
open Sys2Proof.Proofs.Normalised (getLsbD_top_iff)
open Sys2Proof.Proofs.Multiply (answersAs_completeRes0)
open Sys2Proof.Proofs.Exponential (answersAs_raiseFault)

/-! ### The default constants, as numbers (R9) -/

theorem toNat_params_log2K1 : params.log2K1.toNat = 0x5C551D939CAE3DE5 := rfl
theorem toNat_params_log2K3 : params.log2K3.toNat = 0x1EC70E607E70C1E1 := rfl
theorem toNat_params_log2K5 : params.log2K5.toNat = 0x127471B949FBDABE := rfl
theorem toNat_params_log2K7 : params.log2K7.toNat = 0x0DD0C7C3079EEF35 := rfl

/-! ### The bounds of the datapath (the comments of R75) -/

/-- R75: the odd variable, as a quotient by a positive divisor. -/
theorem logT_false (xn : Nat) : logT false xn = ((xn : Int) - 2 ^ 63) * 2 ^ 64 / ((xn : Int) + 2 ^ 63) :=
  Int.fdiv_eq_ediv_of_nonneg _ (by positivity)

theorem logT_true (xn : Nat) : logT true xn = ((xn : Int) - 2 ^ 64) * 2 ^ 64 / ((xn : Int) + 2 ^ 64) :=
  Int.fdiv_eq_ediv_of_nonneg _ (by positivity)

/-- R75: up to the centring switch the odd variable is not negative. -/
theorem logT_false_range {xn : Nat} (hlow : 2 ^ 63 ≤ xn) (hhigh : xn ≤ sqrt2Q63) :
    0 ≤ logT false xn ∧ logT false xn < 2 ^ 62 := by
  unfold sqrt2Q63 at hhigh
  rw [logT_false]
  exact ⟨Int.ediv_nonneg (by omega) (by omega), Int.ediv_lt_of_lt_mul (by omega) (by omega)⟩

/-- R76: above the switch it is negative. -/
theorem logT_true_range {xn : Nat} (hlow : sqrt2Q63 < xn) (hhigh : xn < 2 ^ 64) :
    -2 ^ 62 < logT true xn ∧ logT true xn < 0 := by
  unfold sqrt2Q63 at hlow
  rw [logT_true]
  have hlower : -2 ^ 62 + 1 ≤ ((xn : Int) - 2 ^ 64) * 2 ^ 64 / ((xn : Int) + 2 ^ 64) :=
    (Int.le_ediv_iff_mul_le (by omega)).mpr (by omega)
  exact ⟨Int.add_one_le_iff.mp hlower, Int.ediv_neg_of_neg_of_pos (by omega) (by omega)⟩

/-- R75: the square of the odd variable. -/
theorem asr_square_range {T : Int} (h : |T| < 2 ^ 62) : 0 ≤ asr (T * T) 64 ∧ asr (T * T) 64 < 2 ^ 60 := by
  have hsq : T * T < 2 ^ 62 * 2 ^ 62 := by
    rw [← abs_mul_abs_self]
    exact mul_self_lt_mul_self (abs_nonneg T) h
  have hpos := mul_self_nonneg T
  unfold asr
  omega

/-- R75: a step of the evaluation adds less than `2^59` to its coefficient. -/
theorem logStep_range {acc S : Int} (hacc : 0 ≤ acc ∧ acc < 2 ^ 63) (hS : 0 ≤ S ∧ S < 2 ^ 60) (c : Word) :
    c.toNat ≤ logStep acc S c ∧ logStep acc S c < c.toNat + 2 ^ 59 := by
  have hpos : 0 ≤ acc * S := mul_nonneg hacc.1 hS.1
  have hlt : acc * S < 2 ^ 63 * 2 ^ 60 := mul_lt_mul'' hacc.2 hS.2 hacc.1 hS.1
  unfold logStep asr
  omega

/-- R75: with the default coefficients the accumulator keeps clear of the word's sign. -/
theorem logPoly_range {S : Int} (hS : 0 ≤ S ∧ S < 2 ^ 60) : 0 < logPoly params S ∧ logPoly params S < 2 ^ 63 := by
  have h5 := logStep_range (acc := params.log2K7.toNat) (by decide) hS params.log2K5
  rw [toNat_params_log2K5] at h5
  have h3 := logStep_range (acc := logStep params.log2K7.toNat S params.log2K5) ⟨by omega, by omega⟩ hS params.log2K3
  rw [toNat_params_log2K3] at h3
  have h1 := logStep_range (acc := logStep (logStep params.log2K7.toNat S params.log2K5) S params.log2K3)
    ⟨by omega, by omega⟩ hS params.log2K1
  rw [toNat_params_log2K1] at h1
  unfold logPoly
  omega

/-- R75: the last product, of the same sign as the odd variable and below half the range of `log2m`. -/
theorem asr_mul_range_of_nonneg {a T : Int} (ha : 0 < a ∧ a < 2 ^ 63) (hT : 0 ≤ T ∧ T < 2 ^ 62) :
    0 ≤ asr (a * T) 64 ∧ asr (a * T) 64 < 2 ^ 61 := by
  have hpos : 0 ≤ a * T := mul_nonneg ha.1.le hT.1
  have hlt : a * T < 2 ^ 63 * 2 ^ 62 := mul_lt_mul'' ha.2 hT.2 ha.1.le hT.1
  unfold asr
  omega

theorem asr_mul_range_of_neg {a T : Int} (ha : 0 < a ∧ a < 2 ^ 63) (hT : -2 ^ 62 < T ∧ T < 0) :
    -2 ^ 61 ≤ asr (a * T) 64 ∧ asr (a * T) 64 < 0 := by
  have hneg : a * T < 0 := mul_neg_of_pos_of_neg ha.1 hT.2
  have hgt : a * -T < 2 ^ 63 * 2 ^ 62 := mul_lt_mul'' ha.2 (by omega) ha.1.le (by omega)
  rw [mul_neg] at hgt
  unfold asr
  omega

/-! ### The logarithm of a mantissa -/

/-- R75: up to the centring switch. -/
theorem log2m_of_le {xn : Nat} (p : Params) (h : xn ≤ sqrt2Q63) :
    log2m p xn = 4 * asr (logPoly p (asr (logT false xn * logT false xn) 64) * logT false xn) 64 := by
  simp [log2m, not_lt.mpr h]

/-- R75: above the centring switch. -/
theorem log2m_of_lt {xn : Nat} (p : Params) (h : sqrt2Q63 < xn) :
    log2m p xn = 2 ^ 63 + 4 * asr (logPoly p (asr (logT true xn * logT true xn) 64) * logT true xn) 64 := by
  simp [log2m, h]

/-- Settles O33: on each side of the centring switch, the sign and the size of the last product. -/
theorem mantissaLogarithmStaysInRange : Obligations.MantissaLogarithmStaysInRange := by
  intro xn hlow hhigh
  rcases le_or_gt xn sqrt2Q63 with hside | hside
  · have hT := logT_false_range hlow hside
    have hS := asr_square_range (abs_lt.mpr ⟨by omega, hT.2⟩)
    have hLp := asr_mul_range_of_nonneg (logPoly_range hS) hT
    rw [log2m_of_le params hside]
    omega
  · have hT := logT_true_range hside hhigh
    have hS := asr_square_range (abs_lt.mpr ⟨hT.1, by omega⟩)
    have hLp := asr_mul_range_of_neg (logPoly_range hS) hT
    rw [log2m_of_lt params hside]
    omega

/-! ### LOG2N -/

/-- R77: on a normalised operand `LOG2N` completes with the function of the operand. -/
theorem exec_log2n_of_le {s : State} (h : 2 ^ 63 ≤ s.opa.toNat) :
    exec .log2n s = .next (completeRes0 (u64 (log2m params s.opa.toNat)) s) :=
  if_neg (by rw [(getLsbD_top_iff (w := 63) s.opa).mpr h]; decide)

/-- R77: on any other operand it faults. -/
theorem exec_log2n_of_lt {s : State} (h : s.opa.toNat < 2 ^ 63) :
    exec .log2n s = .next (raiseFault .domain s) :=
  if_pos (Bool.eq_false_iff.mpr (mt (getLsbD_top_iff (w := 63) s.opa).mp (not_le.mpr h)))

/-- R75: the polynomial with the default coefficients written out. -/
theorem logPoly_params (S : Int) :
    logPoly params S =
      ((0x0DD0C7C3079EEF35 * S / 2 ^ 64 + 0x127471B949FBDABE) * S / 2 ^ 64 + 0x1EC70E607E70C1E1) * S / 2 ^ 64
        + 0x5C551D939CAE3DE5 := by
  simp only [logPoly, logStep, asr, toNat_params_log2K1, toNat_params_log2K3, toNat_params_log2K5,
    toNat_params_log2K7, Nat.cast_ofNat]

/-- Settles O32: on each side of the centring switch the function of R75 with the default coefficients, or the
fault. -/
theorem log2nEvaluatesItsPolynomial : Obligations.Log2nEvaluatesItsPolynomial := by
  intro s
  refine ⟨fun h => ?_, fun h => ?_⟩
  · rw [exec_log2n_of_le h]
    rcases le_or_gt s.opa.toNat sqrt2Q63 with hside | hside
    · have hswitch : ¬ (0xB504F333F9DE6484 : Int) < s.opa.toNat := by unfold sqrt2Q63 at hside; omega
      rw [log2m_of_le params hside, logPoly_params]
      simp only [if_neg hswitch, zero_mul, zero_add]
      exact answersAs_completeRes0 _ s
    · have hswitch : (0xB504F333F9DE6484 : Int) < s.opa.toNat := by unfold sqrt2Q63 at hside; omega
      rw [log2m_of_lt params hside, logPoly_params]
      simp only [if_pos hswitch, one_mul]
      exact answersAs_completeRes0 _ s
  · rw [exec_log2n_of_lt h]
    exact answersAs_raiseFault .domain s

/-! ### Exponent and fraction -/

/-- R78 `xn`: the operand shifted to have its leading one in bit 63. -/
def mantissa (x : Word) : Nat := x.toNat * 2 ^ (63 - x.toNat.log2)

theorem toNat_ne_zero {x : Word} (h : x ≠ 0) : x.toNat ≠ 0 := fun h0 => h (BitVec.eq_of_toNat_eq h0)

theorem log2_le {x : Word} (h : x ≠ 0) : x.toNat.log2 ≤ 63 :=
  Nat.le_of_lt_succ ((Nat.log2_lt (toNat_ne_zero h)).mpr x.isLt)

/-- R78: the mantissa is normalised. -/
theorem mantissa_range {x : Word} (h : x ≠ 0) : 2 ^ 63 ≤ mantissa x ∧ mantissa x < 2 ^ 64 := by
  have hlog := log2_le h
  constructor
  · calc 2 ^ 63 = 2 ^ x.toNat.log2 * 2 ^ (63 - x.toNat.log2) := by rw [← pow_add]; congr 1; omega
      _ ≤ mantissa x := Nat.mul_le_mul_right _ (Nat.log2_self_le (toNat_ne_zero h))
  · calc mantissa x < 2 ^ (x.toNat.log2 + 1) * 2 ^ (63 - x.toNat.log2) :=
          Nat.mul_lt_mul_of_pos_right Nat.lt_log2_self (Nat.two_pow_pos _)
      _ = 2 ^ 64 := by rw [← pow_add]; congr 1; omega

/-- R78: no set bit is lost by the normalising shift. -/
theorem toNat_shiftLeft_clz64 {x : Word} (h : x ≠ 0) : (x <<< clz64 x).toNat = mantissa x := by
  rw [clz64, if_neg h, BitVec.toNat_shiftLeft, Nat.shiftLeft_eq]
  exact Nat.mod_eq_of_lt (mantissa_range h).2

/-- R78: the exponent is the position of the leading one, less 32. -/
theorem log2Fix_eq (p : Params) {x : Word} (h : x ≠ 0) :
    log2Fix p x = ((x.toNat.log2 : Int) - 32) * 2 ^ 32 + log2m p (mantissa x) / 2 ^ 31 := by
  have hlog := log2_le h
  rw [log2Fix_of_ne_zero p x h, toNat_shiftLeft_clz64 h, clz64, if_neg h, asr]
  omega

/-- R78: the fraction never carries into the exponent. -/
theorem log2Fix_split {x : Word} (h : x ≠ 0) :
    log2Fix params x / 2 ^ 32 = (x.toNat.log2 : Int) - 32
      ∧ log2Fix params x % 2 ^ 32 = log2m params (mantissa x) / 2 ^ 31 := by
  obtain ⟨hlow, hhigh⟩ := mantissa_range h
  have hm := mantissaLogarithmStaysInRange (mantissa x) hlow hhigh
  rw [log2Fix_eq params h]
  omega

/-- R78: the range of the logarithm. -/
theorem log2Fix_range {x : Word} (h : x ≠ 0) : -2 ^ 37 ≤ log2Fix params x ∧ log2Fix params x < 2 ^ 37 := by
  have hlog := log2_le h
  have hexp := (log2Fix_split h).1
  omega

/-- R78: the logarithm is negative exactly below 1. -/
theorem log2Fix_neg_iff {x : Word} (h : x ≠ 0) : log2Fix params x < 0 ↔ x.toNat < 2 ^ 32 := by
  have hexp := (log2Fix_split h).1
  rw [← Nat.log2_lt (toNat_ne_zero h)]
  omega

/-- R17: `s64` reads back what `u64` wrote of a signed 64-bit number. -/
theorem toInt_u64 {v : Int} (hlow : -2 ^ 63 ≤ v) (hhigh : v < 2 ^ 63) : (u64 v).toInt = v :=
  BitVec.toInt_ofInt_eq_self (by decide) hlow hhigh

theorem toInt_u64_log2Fix {x : Word} (h : x ≠ 0) : (u64 (log2Fix params x)).toInt = log2Fix params x := by
  obtain ⟨hlow, hhigh⟩ := log2Fix_range h
  exact toInt_u64 (by omega) (by omega)

/-! ### LOG2 -/

/-- R79: on a nonzero operand `LOG2` completes with the function of the operand. -/
theorem exec_log2_of_ne_zero {s : State} (h : s.opa ≠ 0) :
    exec .log2 s = .next (completeRes0 (u64 (log2Fix params s.opa)) s) :=
  if_neg h

/-- R79: on zero it faults. -/
theorem exec_log2_of_eq_zero {s : State} (h : s.opa = 0) : exec .log2 s = .next (raiseFault .domain s) :=
  if_pos h

/-- R79, R60: the whole next state of `LOG2` on a nonzero operand. -/
theorem answersAs_log2 {s : State} (h : s.opa ≠ 0) :
    AnswersAs (exec .log2 s)
      { s with res0 := u64 (log2Fix params s.opa), status := { s.status with busy := false, done := true } } :=
  exec_log2_of_ne_zero h ▸ answersAs_completeRes0 _ s

/-- Settles O34: the two halves of the result, or the fault. -/
theorem log2SplitsExponentAndFraction : Obligations.Log2SplitsExponentAndFraction := by
  intro s
  refine ⟨fun h => ⟨u64 (log2Fix params s.opa), answersAs_log2 h, ?_⟩, fun h => ?_⟩
  · rw [toInt_u64_log2Fix h]
    exact log2Fix_split h
  · rw [exec_log2_of_eq_zero h]
    exact answersAs_raiseFault .domain s

/-! ### LN -/

/-- R80: the rescaled logarithm, on numbers. -/
theorem lnFix_eq (p : Params) (x : Word) : lnFix p x = log2Fix p x * 0x58B90BFBE8E7BCD5 / 2 ^ 63 := rfl

/-- R80: the bounds of the rescaled logarithm. -/
theorem lnFix_range {x : Word} (h : x ≠ 0) : -0x162E42FEFB ≤ lnFix params x ∧ lnFix params x ≤ 0x162E42FEF9 := by
  have hlog := log2Fix_range h
  rw [lnFix_eq]
  omega

/-- R80: rescaling keeps the sign. -/
theorem lnFix_neg_iff {x : Word} (h : x ≠ 0) : lnFix params x < 0 ↔ x.toNat < 2 ^ 32 := by
  rw [← log2Fix_neg_iff h, lnFix_eq]
  omega

/-- R80: the logarithm of 1. -/
theorem lnFix_one : lnFix params 0x100000000#64 = 0 := by decide

theorem toInt_u64_lnFix {x : Word} (h : x ≠ 0) : (u64 (lnFix params x)).toInt = lnFix params x := by
  obtain ⟨hlow, hhigh⟩ := lnFix_range h
  exact toInt_u64 (by omega) (by omega)

/-- R81: on a nonzero operand `LN` completes with the function of the operand. -/
theorem exec_ln_of_ne_zero {s : State} (h : s.opa ≠ 0) :
    exec .ln s = .next (completeRes0 (u64 (lnFix params s.opa)) s) :=
  if_neg h

/-- R81: on zero it faults. -/
theorem exec_ln_of_eq_zero {s : State} (h : s.opa = 0) : exec .ln s = .next (raiseFault .domain s) :=
  if_pos h

/-- Settles O35: the two results as numbers, with the sign and the bounds of the second, or the fault. -/
theorem lnRescalesLog2 : Obligations.LnRescalesLog2 := by
  intro s
  refine ⟨fun h => ⟨u64 (log2Fix params s.opa), u64 (lnFix params s.opa), answersAs_log2 h, ?_, ?_, ?_, ?_, ?_⟩,
    fun h => ?_⟩
  · rw [exec_ln_of_ne_zero h]
    exact answersAs_completeRes0 _ s
  · rw [toInt_u64_lnFix h, toInt_u64_log2Fix h, lnFix_eq]
  · rw [toInt_u64_lnFix h, lnFix_neg_iff h]
  · intro hone
    rw [hone, lnFix_one]
    rfl
  · rw [toInt_u64_lnFix h]
    exact lnFix_range h
  · rw [exec_ln_of_eq_zero h]
    exact answersAs_raiseFault .domain s

end Sys2Proof.Proofs.Logarithm

/-! PROOFS. The square root: its normalisation, its Newton iterations, and the powers of four
(spec/42_elementary.md R83 to R85). -/

namespace Sys2Proof.Proofs.SquareRoot

open Sys2Proof.Machine
open Sys2Proof.Proofs.Multiply (answersAs_completeRes0)
open Sys2Proof.Proofs.Logarithm (log2_le)

/-! ### The normalisation -/

/-- R83: the even shift is the leading-zero count rounded down to even. -/
theorem sqrtShift_eq {x : Word} (h : x ≠ 0) : sqrtShift x = 2 * ((63 - x.toNat.log2) / 2) := by
  rw [sqrtShift, clz64, if_neg h]
  omega

/-- R83: the rescaling shift of the result is half the normalising shift, exactly, and fits its word. -/
theorem sqrtShift_half {x : Word} (h : x ≠ 0) : sqrtShift x / 2 * 2 = sqrtShift x ∧ sqrtShift x / 2 ≤ 31 := by
  rw [sqrtShift_eq h]
  omega

/-! ### The datapath -/

/-- R83: one iteration, its floors written out. -/
theorem newtonStep_eq (xn y : Int) :
    newtonStep xn y = y * (3 * 2 ^ 59 - xn * (y * y / 2 ^ 64) / 2 ^ 64 / 2) / 2 ^ 60 := rfl

/-- R83: the four iterations. -/
theorem newton_sqrtIters (xn y : Int) :
    newton xn sqrtIters y = newtonStep xn (newtonStep xn (newtonStep xn (newtonStep xn y))) := rfl

/-- R83: the start with its constants written out. -/
theorem sqrtStart_eq (xn : Int) : sqrtStart xn = 0x9555555555555555 - xn * 0x5555555555555555 / 2 ^ 64 := rfl

theorem sqrtFix_zero : sqrtFix 0 = 0 := rfl

/-- R83: the special case. -/
theorem sqrtFix_of_quarter {x : Word} (h : x ≠ 0) (hxn : (x.toNat : Int) * 2 ^ sqrtShift x = 2 ^ 62) :
    sqrtFix x = 2 ^ (47 - sqrtShift x / 2) := by
  simp only [sqrtFix, if_neg h, if_pos hxn]

/-- R83: the general path. -/
theorem sqrtFix_of_ne_quarter {x : Word} (h : x ≠ 0) (hxn : (x.toNat : Int) * 2 ^ sqrtShift x ≠ 2 ^ 62) :
    sqrtFix x = x.toNat * 2 ^ sqrtShift x
      * newton (x.toNat * 2 ^ sqrtShift x) sqrtIters (sqrtStart (x.toNat * 2 ^ sqrtShift x))
      / 2 ^ (78 + sqrtShift x / 2) := by
  simp only [sqrtFix, if_neg h, if_neg hxn, asr]

/-! ### SQRT -/

/-- R85: `SQRT` completes with the function of its operand. -/
theorem exec_sqrt (s : State) : exec .sqrt s = .next (completeRes0 (u64 (sqrtFix s.opa)) s) := rfl

/-- Settles O36: zero, the special case and the general path. -/
theorem sqrtRunsFourNewtonSteps : Obligations.SqrtRunsFourNewtonSteps := by
  intro s z xn f y0 r
  have hroot : sqrtFix s.opa = r := by
    by_cases h : s.opa = 0
    · rw [h, sqrtFix_zero]
      exact (if_pos h).symm
    have hz : sqrtShift s.opa = z := sqrtShift_eq h
    by_cases hxn : xn = 2 ^ 62
    · rw [sqrtFix_of_quarter h (hz ▸ hxn), hz]
      exact ((if_neg h).trans (if_pos hxn)).symm
    · rw [sqrtFix_of_ne_quarter h (hz ▸ hxn), hz, newton_sqrtIters, sqrtStart_eq]
      exact ((if_neg h).trans (if_neg hxn)).symm
  rw [exec_sqrt, hroot]
  exact answersAs_completeRes0 _ s

/-! ### The powers of four -/

/-- R83: from the normalised operand `2^62` the start value is the fixed point of the iteration. -/
theorem newton_quarter : newton (2 ^ 62) sqrtIters (sqrtStart (2 ^ 62)) = 2 ^ 63 := by decide

/-- R83: a quotient of powers of two. -/
theorem asr_two_pow {m n : Nat} (h : n ≤ m) : asr (2 ^ m) n = 2 ^ (m - n) := by
  rw [asr, ← Nat.sub_add_cancel h, pow_add, Nat.add_sub_cancel]
  exact Int.mul_ediv_cancel _ (by positivity)

/-- Settles O37: the exponents of the special case, and the general path from the fixed point. -/
theorem sqrtOfPowersOfFourIsExact : Obligations.SqrtOfPowersOfFourIsExact := by
  intro x h hxn
  obtain ⟨heven, hsmall⟩ := sqrtShift_half h
  rw [sqrtFix_of_quarter h hxn, newton_quarter]
  constructor
  · have hscale : (2 : Int) ^ sqrtShift x ≠ 0 := by positivity
    refine mul_right_cancel₀ hscale ?_
    calc (2 : Int) ^ (47 - sqrtShift x / 2) * 2 ^ (47 - sqrtShift x / 2) * 2 ^ sqrtShift x
        = 2 ^ (62 + 32) := by rw [← pow_add, ← pow_add]; congr 1; omega
      _ = x.toNat * 2 ^ 32 * 2 ^ sqrtShift x := by rw [pow_add, ← hxn]; ring
  · rw [← pow_add, asr_two_pow (by omega)]
    congr 1
    omega

end Sys2Proof.Proofs.SquareRoot

/-! PROOFS. The first step of `POIS`: the policy for a rate of zero or less, the engine a positive rate opens, and
the digits it starts from (spec/43_poisson_digit.md R91, R93). -/

namespace Sys2Proof.Proofs.PoisDispatch

open Sys2Proof.Machine
open Sys2Proof.Proofs.Scope (params_exp2Ok)
open Sys2Proof.Proofs.Normalised (expFix_range getLsbD_startMantissa digitBudget_le)
open Sys2Proof.Proofs.Multiply (getLsbD_sign)

/-! ### The step by the sampler's position -/

theorem poisWith_of_start (p : Params) {s : State} (h : s.engine = .start) :
    poisWith p s = .next (poisStart p s) := by
  simp only [poisWith, h]

theorem exec_pois (s : State) : exec .pois s = poisWith params s := rfl

/-! ### The step by the rate -/

section
variable {p : Params} {s : State} (hseed : s.status.seeded = true) (hmax : rateOf s ≤ p.rateMax)
include hseed hmax

/-- R91, R136: past both fault checks, only the rate decides. -/
theorem poisStart_of_accepted :
    poisStart p s =
      if rateOf s ≤ 0 then completeRes0 (countWord 0) s
      else if rateOf s ≤ p.tSmall then setEngine .scalar (setWork (scalarOpen p (rateOf s) s.work) s)
      else if rateOf s ≤ p.tMed then
        setEngine .lanes (setLanes { s.lanes with cur := lanesOne } (setWork (lanesOpen p (rateOf s) s.work) s))
      else setEngine .ptrs (setWork (ptrsSetup p (rateOf s) s.work) s) := by
  rw [poisStart, if_neg (by simp [hseed]), if_neg (not_lt.mpr hmax)]

theorem poisStart_of_nonpos (h : rateOf s ≤ 0) : poisStart p s = completeRes0 (countWord 0) s :=
  (poisStart_of_accepted hseed hmax).trans (if_pos h)

theorem poisStart_of_small (hpos : 0 < rateOf s) (h : rateOf s ≤ p.tSmall) :
    poisStart p s = setEngine .scalar (setWork (scalarOpen p (rateOf s) s.work) s) := by
  rw [poisStart_of_accepted hseed hmax, if_neg hpos.not_ge, if_pos h]

theorem poisStart_of_medium (hpos : 0 < rateOf s) (hlow : p.tSmall < rateOf s) (h : rateOf s ≤ p.tMed) :
    poisStart p s =
      setEngine .lanes (setLanes { s.lanes with cur := lanesOne } (setWork (lanesOpen p (rateOf s) s.work) s)) := by
  rw [poisStart_of_accepted hseed hmax, if_neg hpos.not_ge, if_neg hlow.not_ge, if_pos h]

theorem poisStart_of_large (hpos : 0 < rateOf s) (hlow : p.tSmall < rateOf s) (h : p.tMed < rateOf s) :
    poisStart p s = setEngine .ptrs (setWork (ptrsSetup p (rateOf s) s.work) s) := by
  rw [poisStart_of_accepted hseed hmax, if_neg hpos.not_ge, if_neg hlow.not_ge, if_neg h.not_ge]

end

/-- Settles O40: one case per engine, with the registers that its opening writes. -/
theorem rateSelectsTheEngine : Obligations.RateSelectsTheEngine := by
  intro p s hstart hseed hpos hmax
  rw [poisWith_of_start p hstart]
  refine ⟨fun hsmall => ?_, fun hlow hmed => ?_, fun hlow hlarge => ?_⟩
  · rw [poisStart_of_small hseed hmax hpos hsmall]; rfl
  · rw [poisStart_of_medium hseed hmax hpos hlow hmed]; rfl
  · rw [poisStart_of_large hseed hmax hpos hlow hlarge]; rfl

/-! ### A rate of zero or less -/

/-- R15: no rate is above the default ceiling. -/
theorem rateOf_le_rateMax (s : State) : rateOf s ≤ params.rateMax :=
  Int.le_sub_one_of_lt (BitVec.toInt_lt (x := s.opa))

/-- R91: the count as a result is the count modulo `2^32`. -/
theorem countWord_eq (k : Int) : countWord k = BitVec.ofInt 64 (k % 2 ^ 32) := by
  apply BitVec.eq_of_toNat_eq
  rw [countWord, zext32, BitVec.toNat_setWidth, BitVec.toNat_ofInt, BitVec.toNat_ofInt]
  omega

/-- Settles O38: both patterns are rates of zero or less, which no check stops before. -/
theorem nonPositiveRateGivesZero : Obligations.NonPositiveRateGivesZero := by
  intro s hstart hseed hopa
  have hrate : rateOf s ≤ 0 := by
    obtain hzero | hsign := hopa
    · exact (congrArg BitVec.toInt hzero).le
    · exact (of_decide_eq_true ((getLsbD_sign s.opa).symm.trans hsign)).le
  rw [exec_pois, poisWith_of_start params hstart, poisStart_of_nonpos hseed (rateOf_le_rateMax s) hrate]
  rfl

/-! ### The digits of a rate -/

/-- R12, R93: the digits with the constant written out. -/
theorem rateDigits_eq (rate : Int) : rateDigits rate = rate * 0x5C551D94AE0BF85D / 2 ^ 62 := rfl

/-- R93: the budget of a rate that is not negative is the integer part of its digits. -/
theorem digitBudget_cast {rate : Int} (h : 0 ≤ rate) : (digitBudget rate : Int) = rateDigits rate / 2 ^ 32 := by
  have hdigits : 0 ≤ rateDigits rate := by rw [rateDigits_eq]; omega
  exact Int.toNat_of_nonneg (Int.ediv_nonneg hdigits (by decide))

/-- R93: the mantissa is the exponential of the fraction of the digits, in the upper half of its word. -/
theorem startMantissa_toNat {p : Params} (hp : p.exp2Ok = true) (rate : Int) :
    (startMantissa p rate).toNat = expFix p (rateDigits rate % 2 ^ 32).toNat * 2 ^ 32 := by
  have hfrac : (BitVec.ofInt 32 (rateDigits rate)).toNat = (rateDigits rate % 2 ^ 32).toNat := BitVec.toNat_ofInt _
  have hexp := (expFix_range hp (BitVec.ofInt 32 (rateDigits rate)).isLt).2
  rw [startMantissa, BitVec.toNat_ofNat, ← hfrac, Nat.mod_eq_of_lt (by omega)]

/-- Settles O41: the budget and the mantissa of a rate that the default build counts in digits. -/
theorem digitsOfARate : Obligations.DigitsOfARate := fun rate hpos hmed =>
  ⟨digitBudget_cast hpos.le, digitBudget_le hmed, getLsbD_startMantissa params_exp2Ok rate,
    startMantissa_toNat params_exp2Ok rate⟩

end Sys2Proof.Proofs.PoisDispatch

/-! PROOFS. The scalar digit-counting engine: one multiplication on numbers, one iteration, and the draws of a
whole command (spec/43_poisson_digit.md R94). -/

namespace Sys2Proof.Proofs.ScalarEngine

open Sys2Proof.Machine
open Sys2Proof.Proofs.Normalised (or_one_ne_zero)
open Sys2Proof.Proofs.Stream (streamAfter_eq)
open Sys2Proof.Proofs.Multiply (toNat_highWord_product)
open Sys2Proof.Proofs.PoisDispatch (exec_pois countWord_eq)

/-! ### One multiplication -/

/-- R19: the leading zeros of a word other than 0. -/
theorem clz64_of_ne_zero {x : Word} (h : x ≠ 0) : clz64 x = 63 - x.toNat.log2 := if_neg h

/-- R94: the product is not 0, because it is odd. -/
theorem scalarProduct_ne_zero (acc r : Word) : scalarProduct acc r ≠ 0 := or_one_ne_zero _

/-- R94: the high word of the exact product, forced odd. -/
theorem toNat_scalarProduct (acc r : Word) :
    (scalarProduct acc r).toNat = (acc.toNat * r.toNat / 2 ^ 64) ||| 1 := by
  rw [scalarProduct, BitVec.toNat_or, mulhu, toNat_highWord_product]
  rfl

/-- A shift to the left is a product with a power of two. -/
theorem shiftLeft_eq_ofNat (x : Word) (z : Nat) : x <<< z = BitVec.ofNat 64 (x.toNat * 2 ^ z) := by
  apply BitVec.eq_of_toNat_eq
  rw [BitVec.toNat_shiftLeft, BitVec.toNat_ofNat, Nat.shiftLeft_eq]

/-- R94: a multiplication of the accumulator, on numbers. -/
theorem scalarMultiply_eq (r : Word) (w : Work) :
    let q : Nat := (w.acc.toNat * r.toNat / 2 ^ 64) ||| 1
    let z : Nat := 63 - q.log2
    scalarMultiply r w = { w with acc := BitVec.ofNat 64 (q * 2 ^ z), B := w.B - z } := by
  dsimp only
  rw [scalarMultiply, shiftLeft_eq_ofNat, clz64_of_ne_zero (scalarProduct_ne_zero _ _), toNat_scalarProduct]

/-! ### One iteration -/

theorem poisWith_of_scalar (p : Params) {s : State} (h : s.engine = .scalar) :
    poisWith p s = .next (scalarIter p s) := by
  simp only [poisWith, h]

/-- R94, R60: an iteration by the sign of the balance it leaves. The drawn stream is a variable, so that no sum of
words is compared by counting. -/
theorem scalarIter_eq (p : Params) (s : State) {st : Word} (hst : st = s.stream + p.prngInc) {w : Work}
    (hw : w = scalarMultiply (nextRaw p s.stream).1 s.work) :
    scalarIter p s =
      if w.B < 0 then
        { s with
          stream := st, res0 := BitVec.ofInt 64 (s.work.k % 2 ^ 32), work := w, engine := .start,
          status := { s.status with busy := false, done := true } }
      else { s with stream := st, work := { w with k := s.work.k + 1 } } := by
  obtain ⟨v, hv, ⟨hneg, hiter⟩ | ⟨hpos, hiter⟩⟩ := scalarIter_cases p s <;> subst hv <;> rw [hiter, ← hst, ← hw]
  · rw [if_pos (hw ▸ hneg), countWord_eq]; rfl
  · rw [if_neg (hw ▸ hpos.not_gt)]; rfl

/-- Settles O42: the multiplication of the iteration, on numbers. -/
theorem scalarIterationMultipliesOnce : Obligations.ScalarIterationMultipliesOnce := by
  intro s hscalar
  dsimp only
  rw [exec_pois, poisWith_of_scalar params hscalar, scalarIter_eq params s rfl (scalarMultiply_eq _ _).symm]

/-! ### The whole loop -/

/-- R94: from any iteration on, the loop draws once for each count it adds, and once more. -/
theorem scalarLoop_draws {p : Params} {fuel : Nat} {acc : Word} {B k k' : Int} {st st' : Word}
    (h : scalarLoop p fuel acc B k st = some (k', st')) :
    ∃ j : Nat, k' = k + j ∧ st' = streamAfter p st (j + 1) := by
  induction fuel generalizing acc B k st with
  | zero => cases h
  | succ fuel ih =>
    rw [scalarLoop] at h
    split at h
    · cases h
      exact ⟨0, (add_zero _).symm, rfl⟩
    · obtain ⟨j, hk, hst⟩ := ih h
      exact ⟨j + 1, by push_cast; omega, hst⟩

/-- Settles O43: the loop starts from the count 0. -/
theorem scalarDrawsOneMoreThanItsCount : Obligations.ScalarDrawsOneMoreThanItsCount := by
  intro p fuel rate st st' k h
  obtain ⟨j, rfl, rfl⟩ := scalarLoop_draws h
  have hcount : BitVec.ofInt 64 (0 + (j : Int) + 1) = BitVec.ofNat 64 (j + 1) := by
    rw [zero_add, ← BitVec.ofInt_natCast]; rfl
  exact ⟨by omega, by rw [streamAfter_eq, hcount]⟩

end Sys2Proof.Proofs.ScalarEngine

/-! PROOFS. The 16-lane digit-counting engine: one lane, the fold of the lanes, the lookback, one iteration, and
the draws of a whole command (spec/43_poisson_digit.md R97 to R102). -/

namespace Sys2Proof.Proofs.LaneEngine

open Sys2Proof.Machine
open Sys2Proof.Proofs.Normalised
open Sys2Proof.Proofs.Stream (streamAfter_eq streamAfter_add)
open Sys2Proof.Proofs.Multiply (toNat_highWord_product)
open Sys2Proof.Proofs.PoisDispatch (exec_pois countWord_eq)
open Sys2Proof.Proofs.ScalarEngine (clz64_of_ne_zero shiftLeft_eq_ofNat)

/-! ### One lane -/

/-- R98: which bits of which draw a lane takes, on numbers. -/
theorem toNat_laneUniform (w : Vector Word 4) (j : Fin 16) :
    (laneUniform w j).toNat = (w[j.val / 4]'(by omega)).toNat / 2 ^ (16 * (j.val % 4)) % 2 ^ 16 := by
  rw [laneUniform, BitVec.extractLsb'_toNat, Nat.shiftRight_eq_div_pow]

/-- Settles O45: the cut of the draws, and the lanes of a batch one by one. -/
theorem lanesCutTheDraws : Obligations.LanesCutTheDraws := fun w x j =>
  ⟨toNat_laneUniform w j, lanesStep_getElem x w j⟩

theorem clz32_of_ne_zero {q : BitVec 32} (h : q ≠ 0) : clz32 q = 31 - q.toNat.log2 := if_neg h

/-- R98: the product of a normalised lane is not 0. -/
theorem laneProduct_ne_zero {l : Lane} (ha : l.a.getLsbD 15 = true) (u : BitVec 16) : laneProduct l u ≠ 0 :=
  fun h0 => by simpa [h0] using le_laneProduct ha u

/-- R98: the upper 16 bits of a shifted 32-bit product: a bit lost by the shift is above them. -/
theorem extractLsb'_shiftLeft_eq_ofNat (q : BitVec 32) (z : Nat) :
    (q <<< z).extractLsb' 16 16 = BitVec.ofNat 16 (q.toNat * 2 ^ z / 2 ^ 16) := by
  apply BitVec.eq_of_toNat_eq
  rw [BitVec.extractLsb'_toNat, BitVec.toNat_shiftLeft, BitVec.toNat_ofNat, Nat.shiftLeft_eq,
    Nat.shiftRight_eq_div_pow]
  omega

/-- R98: at most 16 digits more do not leave 16 signed bits, up to the count 32751. -/
theorem toInt_add_ofNat {d : BitVec 16} {c : Nat} (hd : d.toInt ≤ 32751) (hc : c ≤ 16) :
    (d + BitVec.ofNat 16 c).toInt = d.toInt + c := by
  have hlow := BitVec.le_toInt d
  have hc' : (BitVec.ofNat 16 c).toInt = c := by
    rw [BitVec.toInt_eq_toNat_of_lt (by rw [BitVec.toNat_ofNat]; omega), BitVec.toNat_ofNat]
    omega
  rw [BitVec.toInt_add, hc', Int.bmod_eq_of_le (by omega) (by omega)]

/-- Settles O44: the exact product, its leading zeros, and the sum of digits that does not wrap. -/
theorem laneMultiplicationIsExact : Obligations.LaneMultiplicationIsExact := by
  intro l u ha q z
  have hq : (laneProduct l u).toNat = q := by rw [laneProduct_toNat, BitVec.toNat_or]; rfl
  have hz : clz32 (laneProduct l u) = z := by rw [clz32_of_ne_zero (laneProduct_ne_zero ha u), hq]
  have hz16 : z ≤ 16 := hz ▸ clz32_le (le_laneProduct ha u)
  refine ⟨?_, getLsbD_laneStep_a ha u, hz16, fun hd => ?_⟩
  · rw [laneStep_eq, hz, extractLsb'_shiftLeft_eq_ofNat, hq]
  · rw [laneStep_eq, hz]
    exact toInt_add_ofNat hd hz16

/-! ### The fold -/

/-- R99: the high word of the product of the fold, on numbers. -/
theorem toNat_foldProduct (F : Word) (l : Lane) :
    (mulhu F (l.a.setWidth 64 <<< 48)).toNat = F.toNat * (l.a.toNat * 2 ^ 48) / 2 ^ 64 := by
  have ha := l.a.isLt
  have hshift : (l.a.setWidth 64 <<< 48).toNat = l.a.toNat * 2 ^ 48 := by
    rw [BitVec.toNat_shiftLeft, BitVec.toNat_setWidth, Nat.shiftLeft_eq]
    omega
  rw [mulhu, toNat_highWord_product, hshift]

/-- R99: two normalised factors lose at most one bit. -/
theorem le_foldProduct {F : Word} {l : Lane} (hF : F.getLsbD 63 = true) (ha : l.a.getLsbD 15 = true) :
    2 ^ 62 ≤ F.toNat * (l.a.toNat * 2 ^ 48) / 2 ^ 64 := by
  have hF' : 2 ^ 63 ≤ F.toNat := (getLsbD_top_iff (w := 63) F).mp hF
  have ha' : 2 ^ 15 ≤ l.a.toNat := (getLsbD_top_iff (w := 15) l.a).mp ha
  have hprod : 2 ^ 63 * (2 ^ 15 * 2 ^ 48) ≤ F.toNat * (l.a.toNat * 2 ^ 48) :=
    Nat.mul_le_mul hF' (Nat.mul_le_mul_right _ ha')
  omega

/-- R19: a word of at least `2^62` has one leading zero, or none when its top bit is set. -/
theorem clz64_of_le {x : Word} (h : 2 ^ 62 ≤ x.toNat) : clz64 x = if 2 ^ 63 ≤ x.toNat then 0 else 1 := by
  have hx : x.toNat ≠ 0 := by omega
  have hne : x ≠ 0 := fun h0 => hx (congrArg BitVec.toNat h0)
  have hlow : 62 ≤ x.toNat.log2 := (Nat.le_log2 hx).mpr h
  have hhigh : x.toNat.log2 < 64 := (Nat.log2_lt hx).mpr x.isLt
  have htop : 63 ≤ x.toNat.log2 ↔ 2 ^ 63 ≤ x.toNat := Nat.le_log2 hx
  rw [clz64_of_ne_zero hne]
  split <;> omega

/-- R99: a multiplication of the fold, on numbers. -/
theorem foldStep_eq {F : Word} {l : Lane} (hF : F.getLsbD 63 = true) (ha : l.a.getLsbD 15 = true) (Z : Nat) :
    let q : Nat := F.toNat * (l.a.toNat * 2 ^ 48) / 2 ^ 64
    foldStep (F, Z) l =
      if 2 ^ 63 ≤ q then (BitVec.ofNat 64 q, Z) else (BitVec.ofNat 64 (2 * q), Z + 1) := by
  have hq := le_foldProduct hF ha
  rw [← toNat_foldProduct] at hq ⊢
  dsimp only [foldStep]
  rw [shiftLeft_eq_ofNat, clz64_of_le hq]
  split
  · rw [pow_zero, mul_one, add_zero]
  · rw [pow_one, mul_comm]

/-- R99: the fold stays normalised. -/
theorem getLsbD_foldStep {F : Word} {l : Lane} (hF : F.getLsbD 63 = true) (ha : l.a.getLsbD 15 = true) (Z : Nat) :
    (foldStep (F, Z) l).1.getLsbD 63 = true := by
  refine getLsbD_shiftLeft_clz64 fun h0 => ?_
  have hq := le_foldProduct hF ha
  rw [← toNat_foldProduct, h0] at hq
  exact absurd hq (by decide)

/-- R99: a multiplication counts at most one digit. -/
theorem foldStep_digits_le {F : Word} {l : Lane} (hF : F.getLsbD 63 = true) (ha : l.a.getLsbD 15 = true) (Z : Nat) :
    (foldStep (F, Z) l).2 ≤ Z + 1 := by
  rw [foldStep_eq hF ha]
  split
  · exact Nat.le_succ Z
  · exact le_rfl

/-- R97, R99: a lane of mantissa 1/2 halves the product, which counts one digit. -/
theorem foldStep_digits_of_half {F : Word} {l : Lane} (hF : F.getLsbD 63 = true) (ha : l.a = 0x8000#16) (Z : Nat) :
    (foldStep (F, Z) l).2 = Z + 1 := by
  have hFlt := F.isLt
  have hhalf : l.a.toNat = 2 ^ 15 := congrArg BitVec.toNat ha
  have hq : ¬ 2 ^ 63 ≤ F.toNat * (l.a.toNat * 2 ^ 48) / 2 ^ 64 := by rw [hhalf]; omega
  rw [foldStep_eq hF (by rw [ha]; decide), if_neg hq]

/-- R99: the fold over normalised lanes. -/
theorem foldl_foldStep_normalised {ls : List Lane} (hls : ∀ l ∈ ls, l.a.getLsbD 15 = true) {f : Word × Nat}
    (hf : f.1.getLsbD 63 = true) :
    (ls.foldl foldStep f).1.getLsbD 63 = true ∧ (ls.foldl foldStep f).2 ≤ f.2 + ls.length := by
  induction ls generalizing f with
  | nil => exact ⟨hf, le_rfl⟩
  | cons l ls ih =>
    obtain ⟨F, Z⟩ := f
    obtain ⟨hl, hls⟩ := List.forall_mem_cons.mp hls
    obtain ⟨htop, hcount⟩ := ih hls (getLsbD_foldStep (F := F) hf hl Z)
    have hstep := foldStep_digits_le (F := F) hf hl Z
    exact ⟨htop, by rw [List.foldl_cons, List.length_cons]; omega⟩

/-- R97, R99: the fold over lanes of mantissa 1/2 counts one digit for each. -/
theorem foldl_foldStep_of_half {ls : List Lane} (hls : ∀ l ∈ ls, l.a = 0x8000#16) {f : Word × Nat}
    (hf : f.1.getLsbD 63 = true) : (ls.foldl foldStep f).2 = f.2 + ls.length := by
  induction ls generalizing f with
  | nil => rfl
  | cons l ls ih =>
    obtain ⟨F, Z⟩ := f
    obtain ⟨hl, hls⟩ := List.forall_mem_cons.mp hls
    have hnorm : l.a.getLsbD 15 = true := by rw [hl]; decide
    have htop := getLsbD_foldStep (F := F) hf hnorm Z
    have hstep := foldStep_digits_of_half (F := F) hf hl Z
    rw [List.foldl_cons, ih hls htop, hstep, List.length_cons]
    omega

/-- What holds of every index holds of every lane. -/
theorem forall_mem_toList {x : Snapshot} {P : Lane → Prop} (h : ∀ j : Fin 16, P x[j]) : ∀ l ∈ x.toList, P l := by
  intro l hl
  obtain ⟨i, hi, rfl⟩ := Vector.mem_iff_getElem.mp (Vector.mem_toList_iff.mp hl)
  exact h ⟨i, hi⟩

/-- R97: lanes at their initial value count no digit: −1 each, and one more by the fold. -/
theorem combinedDigits_lanesOne {E64 : Word} (hE : E64.getLsbD 63 = true) : combinedDigits lanesOne E64 = 0 := by
  have hdigits : laneDigits lanesOne = -16 := by decide
  have hhalf : ∀ l ∈ lanesOne.toList, l.a = 0x8000#16 := by decide
  have hfold : (fold lanesOne E64).2 = 16 := foldl_foldStep_of_half hhalf hE
  rw [combinedDigits, hdigits, hfold]
  rfl

/-- Settles O46: one multiplication, the fold of sixteen, and its value before the first batch. -/
theorem foldIsNormalised : Obligations.FoldIsNormalised := by
  refine ⟨fun F Z l hF ha => foldStep_eq hF ha Z, fun x E64 hE hx => ?_⟩
  obtain ⟨htop, hcount⟩ :=
    foldl_foldStep_normalised (forall_mem_toList (P := fun l => l.a.getLsbD 15 = true) hx) (f := (E64, 0)) hE
  rw [Vector.length_toList, zero_add] at hcount
  exact ⟨htop, hcount, combinedDigits_lanesOne hE⟩

/-! ### The lookback -/

/-- R101: with every lane taken from the newer snapshot, the mixed state is that snapshot. -/
theorem mix_last (l : LaneFile) : mix 15 l = l.cur := by
  apply Vector.ext
  intro i hi
  have hle : i ≤ 15 := by omega
  simp [mix, hle]

/-- R101: whether the mixed state of lane `i` has crossed the budget. -/
def hasCrossed (n : Nat) (E64 : Word) (l : LaneFile) (i : Nat) : Bool :=
  decide ((n : Int) < combinedDigits (mix i l) E64)

theorem hasCrossed_iff {n : Nat} {E64 : Word} {l : LaneFile} {i : Nat} :
    hasCrossed n E64 l i = true ↔ (n : Int) < combinedDigits (mix i l) E64 := decide_eq_true_iff

theorem not_hasCrossed_iff {n : Nat} {E64 : Word} {l : LaneFile} {i : Nat} :
    (!hasCrossed n E64 l i) = true ↔ combinedDigits (mix i l) E64 ≤ n := by
  rw [Bool.not_eq_true', Bool.eq_false_iff, ne_eq, hasCrossed_iff, not_lt]

theorem crossingLane_eq (n : Nat) (E64 : Word) (l : LaneFile) :
    crossingLane n E64 l = ((List.range 16).find? (hasCrossed n E64 l)).getD 15 := rfl

/-- R101: whatever the lookback answers is a lane. -/
theorem crossingLane_lt (n : Nat) (E64 : Word) (l : LaneFile) : crossingLane n E64 l < 16 := by
  rw [crossingLane_eq]
  cases hfind : (List.range 16).find? (hasCrossed n E64 l) with
  | none => decide
  | some i => exact List.mem_range.mp (List.mem_of_find?_eq_some hfind)

/-- Settles O47: the search cannot fail, because the last mixed state is the one that crossed. -/
theorem lookbackFindsTheFirstCrossing : Obligations.LookbackFindsTheFirstCrossing := by
  intro n E64 l hcrossed
  rw [crossingLane_eq]
  cases hfind : (List.range 16).find? (hasCrossed n E64 l) with
  | none =>
    have hlast : ¬ hasCrossed n E64 l 15 = true := List.find?_eq_none.mp hfind 15 (by decide)
    rw [hasCrossed_iff, mix_last] at hlast
    exact absurd hcrossed hlast
  | some i =>
    obtain ⟨hi, hmem, hfirst⟩ := List.find?_range_eq_some.mp hfind
    exact ⟨List.mem_range.mp hmem, hasCrossed_iff.mp hi, fun j hj => not_hasCrossed_iff.mp (hfirst j hj)⟩

/-! ### One iteration -/

theorem poisWith_of_lanes (p : Params) {s : State} (h : s.engine = .lanes) :
    poisWith p s = .next (lanesIter p s) := by
  simp only [poisWith, h]

/-- R98: the four draws of the machine are those of the batch. -/
theorem drawFour_fst (p : Params) (s : State) : (drawFour p s).1 = batchWords p s.stream := rfl

/-- R102: an iteration by whether its batch crossed the budget. The drawn stream and the lane found are variables,
so that neither is computed. -/
theorem lanesIter_eq (p : Params) (s : State) {st : Word} (hst : st = streamAfter p s.stream 4) {x : Snapshot}
    (hx : x = lanesStep s.lanes.cur (batchWords p s.stream)) {i : Nat}
    (hi : i = crossingLane s.work.n s.work.E64 { cur := x, prev := s.lanes.cur }) :
    lanesIter p s =
      if combinedDigits x s.work.E64 ≤ s.work.n then
        { s with
          stream := st, lanes := { cur := x, prev := s.lanes.cur },
          work := { s.work with k := s.work.k + 16 } }
      else
        { s with
          stream := st, lanes := { cur := x, prev := s.lanes.cur },
          res0 := BitVec.ofInt 64 ((s.work.k + i) % 2 ^ 32),
          engine := .start, status := { s.status with busy := false, done := true } } := by
  have hst' : s.stream + p.prngInc + p.prngInc + p.prngInc + p.prngInc = st := hst.symm
  obtain ⟨y, hy, t, ht, hcase⟩ := lanesIter_cases p s
  rw [drawFour_fst, ← hx] at hy
  subst hy
  rw [hst'] at ht
  subst ht
  obtain ⟨hin, hiter⟩ | ⟨hout, j, hj, hiter⟩ := hcase
  · rw [if_pos hin, hiter]; rfl
  · rw [if_neg hout.not_ge, hiter, hj.trans hi.symm, countWord_eq]; rfl

/-- Settles O48: the iteration, its four draws as one sum. -/
theorem lanesIterationRunsOneBatch : Obligations.LanesIterationRunsOneBatch := by
  intro s hlanes
  have hst : s.stream + 4 * params.prngInc = streamAfter params s.stream 4 := (streamAfter_eq _ _ 4).symm
  dsimp only
  rw [exec_pois, poisWith_of_lanes params hlanes, lanesIter_eq params s hst rfl rfl]

/-! ### The whole loop -/

/-- R102: from any iteration on, the loop draws four words for each batch that stays in it, and four more for the
one that crosses. -/
theorem lanesLoop_draws {p : Params} {n : Nat} {E64 : Word} {fuel : Nat} {cur : Snapshot} {k k' : Int}
    {st st' : Word} (h : lanesLoop p n E64 fuel cur k st = some (k', st')) :
    ∃ j i : Nat, i < 16 ∧ k' = k + 16 * j + i ∧ st' = streamAfter p st (4 * (j + 1)) := by
  induction fuel generalizing cur k st with
  | zero => cases h
  | succ fuel ih =>
    rw [lanesLoop] at h
    split at h
    · obtain ⟨j, i, hi, hk, hst⟩ := ih h
      refine ⟨j + 1, i, hi, by push_cast; omega, ?_⟩
      rw [hst, ← streamAfter_add]
      congr 1
      omega
    · cases h
      exact ⟨0, _, crossingLane_lt n E64 _, by rw [Nat.cast_zero, mul_zero, add_zero], rfl⟩

/-- Settles O49: the loop starts from the count 0, so the batches can be read off the result. -/
theorem lanesDrawFourPerBatch : Obligations.LanesDrawFourPerBatch := by
  intro p fuel rate st st' k h
  obtain ⟨j, i, hi, rfl, rfl⟩ := lanesLoop_draws h
  have hbatches : 4 * ((0 + 16 * (j : Int) + i) / 16 + 1) = ((4 * (j + 1) : Nat) : Int) := by omega
  exact ⟨by omega, by rw [streamAfter_eq, hbatches, BitVec.ofInt_natCast]⟩

end Sys2Proof.Proofs.LaneEngine

/-! PROOFS. A run of the block from an accepted `POIS` computes the engine's function: one simulation by iterations
for the three loops, then the first step (spec/43_poisson_digit.md R91, R94, R102, spec/44_poisson_ptrs.md
R121). -/

namespace Sys2Proof.Proofs.PoisRun

open Sys2Proof.Machine
open Sys2Proof.Proofs.HiddenState
open Sys2Proof.Proofs.Encoding (decode_eq_ok_iff)
open Sys2Proof.Proofs.Stream (step_of_no_agenda)
open Sys2Proof.Proofs.BlockMoves (blockTurn_of_decode blockTurn_of_idle)
open Sys2Proof.Proofs.PoisDispatch
open Sys2Proof.Proofs.ScalarEngine (poisWith_of_scalar)
open Sys2Proof.Proofs.LaneEngine (poisWith_of_lanes drawFour_fst)

/-! ### Runs without a schedule -/

/-- A block on which `POIS` is running, with nothing on the schedule. -/
structure Running (s : State) : Prop where
  agenda : s.env.agenda = []
  busy : s.status.busy = true
  cmd : s.cmd = encode .pois

/-- R60: a step of a running `POIS` is a step of its meaning. -/
theorem Running.step {s t : State} (h : Running s) (ht : poisWith params s = .next t) : step s = .next t := by
  rw [step_of_no_agenda h.agenda, blockTurn_of_decode h.busy ((decode_eq_ok_iff _ _).mpr h.cmd), exec_pois, ht]

/-- R60: an idle block without a schedule stays as it is. -/
theorem runs_of_idle {s : State} (hag : s.env.agenda = []) (hidle : s.status.busy = false) (k : Nat) :
    runs k s = .next s := by
  induction k with
  | zero => rfl
  | succ k ih => exact (runs_succ_of_next ((step_of_no_agenda hag).trans (blockTurn_of_idle hidle)) k).trans ih

/-! ### What an iteration may write -/

/-- The second state is the first but for the stream, the sampler's position, the lane file and the working
registers. -/
def Advanced (s t : State) : Prop := ∃ (st : Word) (e : Engine), SameShown (setEngine e (setStream st s)) t

theorem Advanced.refl (s : State) : Advanced s s := ⟨s.stream, s.engine, s.lanes, s.work, rfl⟩

theorem Advanced.trans {s t u : State} (h : Advanced s t) (g : Advanced t u) : Advanced s u := by
  obtain ⟨st, e, l, w, rfl⟩ := h
  obtain ⟨st', e', l', w', rfl⟩ := g
  exact ⟨st', e', l', w', rfl⟩

theorem Advanced.setStream {s t : State} (h : Advanced s t) (v : Word) : Advanced s (setStream v t) :=
  h.trans ⟨v, t.engine, t.lanes, t.work, rfl⟩

theorem Advanced.setEngine {s t : State} (h : Advanced s t) (e : Engine) : Advanced s (setEngine e t) :=
  h.trans ⟨t.stream, e, t.lanes, t.work, rfl⟩

theorem Advanced.setLanes {s t : State} (h : Advanced s t) (l : LaneFile) : Advanced s (setLanes l t) :=
  h.trans ⟨t.stream, t.engine, l, t.work, rfl⟩

theorem Advanced.setWork {s t : State} (h : Advanced s t) (w : Work) : Advanced s (setWork w t) :=
  h.trans ⟨t.stream, t.engine, t.lanes, w, rfl⟩

/-- R112: the end of an iteration that draws and writes working registers. -/
theorem advanced_drawn (s : State) (v : Word) (w : Work) : Advanced s (setWork w (setStream v s)) :=
  ((Advanced.refl s).setStream v).setWork w

/-- What an iteration that stays in its loop does not write. -/
structure SameFrame (t s : State) : Prop where
  cmd : t.cmd = s.cmd
  opa : t.opa = s.opa
  opb : t.opb = s.opb
  res0 : t.res0 = s.res0
  res1 : t.res1 = s.res1
  cause : t.cause = s.cause
  env : t.env = s.env
  status : t.status = s.status

theorem Advanced.frame {s t : State} (h : Advanced s t) : SameFrame t s := by
  obtain ⟨st, e, l, w, rfl⟩ := h
  exact ⟨rfl, rfl, rfl, rfl, rfl, rfl, rfl, rfl⟩

theorem Running.advanced {s t : State} (h : Running s) (g : Advanced s t) : Running t := by
  obtain ⟨hcmd, -, -, -, -, -, henv, hstatus⟩ := g.frame
  exact ⟨by rw [henv, h.agenda], by rw [hstatus, h.busy], hcmd.trans h.cmd⟩

/-- `t` is where a command begun in `s` stands when its function answers `r`: completed with the count and the
stream of the answer, or still in its loop. -/
def Reaches (s : State) (r : Option (Int × Word)) (t : State) : Prop :=
  match r with
  | some (k, st) => ∃ u, Advanced s u ∧ u.stream = st ∧ t = completeRes0 (countWord k) u
  | none => Advanced s t

/-- A completed command stays completed. -/
theorem Running.runs_completed {s u : State} (h : Running s) (g : Advanced s u) (k : Int) (n : Nat) :
    runs n (completeRes0 (countWord k) u) = .next (completeRes0 (countWord k) u) :=
  have hag : (completeRes0 (countWord k) u).env.agenda = [] := (h.advanced g).agenda
  runs_of_idle hag rfl n

/-! ### A loop and its function -/

/-- The iteration of a loop follows its function: it completes with the function's answer, or goes round again to
where the function with one unit of fuel less answers the same. -/
def Follows (loop : Nat → State → Option (Int × Word)) (n : Nat) (s t : State) : Prop :=
  (∃ k u, Advanced s u ∧ t = completeRes0 (countWord k) u ∧ loop (n + 1) s = some (k, u.stream))
  ∨ (Advanced s t ∧ t.engine = s.engine ∧ loop (n + 1) s = loop n t)

/-- R94, R102, R121: a loop whose iterations follow a function runs to where the function answers, as seen from
the state `s` in which the command began. -/
theorem runs_of_follows {e : Engine} {iter : State → State} {loop : Nat → State → Option (Int × Word)}
    (hmeaning : ∀ s : State, s.engine = e → poisWith params s = .next (iter s))
    (hzero : ∀ s, loop 0 s = none) (hiter : ∀ n s, Follows loop n s (iter s)) (n : Nat) {s u : State}
    (h : Running s) (g : Advanced s u) (he : u.engine = e) :
    ∃ t, runs n u = .next t ∧ Reaches s (loop n u) t := by
  induction n generalizing u with
  | zero => exact ⟨u, rfl, by rw [hzero]; exact g⟩
  | succ n ih =>
    rw [runs_succ_of_next ((h.advanced g).step (hmeaning u he))]
    obtain ⟨k, v, hv, hdone, hloop⟩ | ⟨hagain, heng, hloop⟩ := hiter n u
    · rw [hdone, hloop]
      exact ⟨_, h.runs_completed (g.trans hv) k n, v, g.trans hv, rfl, rfl⟩
    · rw [hloop]
      exact ih (g.trans hagain) (heng.trans he)

/-! ### The three loops -/

/-- R94: the function carries the accumulator, the balance and the count. -/
theorem scalarLoop_follows (p : Params) (n : Nat) (s : State) :
    Follows (fun n s => scalarLoop p n s.work.acc s.work.B s.work.k s.stream) n s (scalarIter p s) := by
  obtain ⟨w, rfl, ⟨hneg, hiter⟩ | ⟨hpos, hiter⟩⟩ := scalarIter_cases p s
  · exact .inl ⟨_, _, advanced_drawn s _ _, hiter, if_pos hneg⟩
  · rw [hiter]
    exact .inr ⟨advanced_drawn s _ _, rfl, if_neg hpos.not_gt⟩

/-- R102, one iteration of the function, with the new lanes named. -/
theorem lanesLoop_succ (p : Params) (n : Nat) (E64 : Word) (fuel : Nat) {cur x : Snapshot} (k : Int) {st : Word}
    (hx : x = lanesStep cur (batchWords p st)) :
    lanesLoop p n E64 (fuel + 1) cur k st =
      if combinedDigits x E64 ≤ n then lanesLoop p n E64 fuel x (k + 16) (streamAfter p st 4)
      else some (k + crossingLane n E64 { cur := x, prev := cur }, streamAfter p st 4) := by
  subst hx; rfl

/-- R102: the function carries the lanes and the count, and reads the digits of the rate. -/
theorem lanesLoop_follows (p : Params) (fuel : Nat) (s : State) :
    Follows (fun fuel s => lanesLoop p s.work.n s.work.E64 fuel s.lanes.cur s.work.k s.stream) fuel s
      (lanesIter p s) := by
  obtain ⟨x, hx, t, ht, hcase⟩ := lanesIter_cases p s
  have hadv : Advanced s t := ht ▸ ((Advanced.refl s).setStream _).setLanes _
  have hst : t.stream = streamAfter p s.stream 4 := by rw [ht]; rfl
  have hloop := lanesLoop_succ p s.work.n s.work.E64 fuel s.work.k hx
  rw [← hst] at hloop
  obtain ⟨hin, hiter⟩ | ⟨hout, i, hi, hiter⟩ := hcase
  · rw [if_pos hin] at hloop
    rw [hiter]
    refine .inr ⟨hadv.setWork _, by rw [ht]; rfl, ?_⟩
    dsimp only
    rw [hloop, ht]
    rfl
  · rw [if_neg hout.not_ge, ← hi] at hloop
    exact .inl ⟨_, _, hadv, hiter, hloop⟩

/-- R121, an iteration of the function that makes one draw. -/
theorem ptrsLoop_of_fast (p : Params) (u : Int) {w : Work} (n : Nat) {st : Word}
    (h : upperHalf (nextRaw p st).1 < w.vr86) :
    ptrsLoop p u w (n + 1) st =
      some ((ptrsFastPath p u { w with V := upperHalf (nextRaw p st).1 }).k, streamAfter p st 1) :=
  if_pos h

/-- R121, an iteration of the function that makes two draws. -/
theorem ptrsLoop_of_slow (p : Params) (u : Int) {w : Work} (n : Nat) {st : Word} {r : Work × Bool}
    (h : w.vr86 ≤ upperHalf (nextRaw p st).1)
    (hr : r = ptrsSlowPath p u { w with
      V := upperHalf (nextRaw p st).1, t := upperHalf (nextRaw p (streamAfter p st 1)).1 }) :
    ptrsLoop p u w (n + 1) st =
      if r.2 then some (r.1.k, streamAfter p st 2) else ptrsLoop p u w n (streamAfter p st 2) := by
  subst hr
  exact if_neg h.not_gt

/-- R112: the uniforms are no registers of the rate. -/
theorem sameRate_withV {v w : Work} (h : SameRate v w) (V : Int) : SameRate { v with V := V } { w with V := V } := by
  obtain ⟨hsmu, hb, ha, hvr, hia, hvr86, hlnu⟩ := h
  exact ⟨hsmu, hb, ha, hvr, hia, hvr86, hlnu⟩

theorem sameDraws_withVT {v w : Work} (h : SameRate v w) (V t : Int) :
    SameDraws { v with V := V, t := t } { w with V := V, t := t } := by
  obtain ⟨hsmu, hb, ha, hvr, hia, hvr86, hlnu⟩ := h
  exact ⟨⟨hsmu, hb, ha, hvr, hia, hvr86, hlnu⟩, rfl, rfl⟩

/-- R121: the loop reads the registers of the set-up, and no others that it has not written. -/
theorem ptrsLoop_congr (p : Params) (u : Int) {v w : Work} (h : SameRate v w) (n : Nat) (st : Word) :
    ptrsLoop p u v n st = ptrsLoop p u w n st := by
  have hvr86 := h.vr86
  induction n generalizing st with
  | zero => rfl
  | succ n ih =>
    rcases lt_or_ge (upperHalf (nextRaw p st).1) w.vr86 with hfast | hslow
    · rw [ptrsLoop_of_fast p u n (hvr86 ▸ hfast), ptrsLoop_of_fast p u n hfast,
        ptrsFastPath_k_congr p u (sameRate_withV h _) rfl]
    · obtain ⟨haccept, hk⟩ := ptrsSlowPath_congr p u
        (sameDraws_withVT h (upperHalf (nextRaw p st).1) (upperHalf (nextRaw p (streamAfter p st 1)).1))
      rw [ptrsLoop_of_slow p u n (hvr86 ▸ hslow) rfl, ptrsLoop_of_slow p u n hslow rfl, haccept, ih]
      split
      · next hq => rw [hk hq]
      · rfl

/-- R113: what the slow path keeps includes the registers of the rate, which the uniforms are not. -/
theorem sameRate_of_sameSetup_drawn {v w : Work} {V t : Int} (h : SameSetup v { w with V := V, t := t }) :
    SameRate v w := by
  obtain ⟨hsmu, hb, ha, hvr, hia, hvr86, hlnu, -⟩ := h
  exact ⟨hsmu, hb, ha, hvr, hia, hvr86, hlnu⟩

/-- R121: a rejected candidate leaves registers of its iteration behind, which the function does not carry on and
does not need. -/
theorem ptrsLoop_follows (p : Params) (n : Nat) (s : State) :
    Follows (fun n s => ptrsLoop p (s64 s.opa) s.work n s.stream) n s (ptrsIter p s) := by
  obtain ⟨w, hw, ⟨hfast, hiter⟩ | ⟨hslow, r, hr, hiter⟩⟩ := ptrsIter_cases p s <;> subst hw
  · exact .inl ⟨_, _, advanced_drawn s _ _, hiter, ptrsLoop_of_fast p _ (w := s.work) n hfast⟩
  · have hloop := ptrsLoop_of_slow p (s64 s.opa) (w := s.work) n hslow hr
    have hkept : SameRate r.1 s.work :=
      sameRate_of_sameSetup_drawn (V := upperHalf (nextRaw p s.stream).1) (hr ▸ (ptrsSlowPath_cases p _ _).1)
    rw [hiter]
    split
    · next hacc => exact .inl ⟨_, _, advanced_drawn s _ _, rfl, hloop.trans (if_pos hacc)⟩
    · next hrej =>
      exact .inr ⟨advanced_drawn s _ _, rfl,
        (hloop.trans (if_neg hrej)).trans (ptrsLoop_congr p (s64 s.opa) hkept n _).symm⟩

/-! ### The whole command -/

/-- R91: a rate of zero or less needs no iteration. -/
theorem poisFunction_of_nonpos {p : Params} {rate : Int} (h : rate ≤ 0) (fuel : Nat) (st : Word) :
    poisFunction p fuel rate st = some (0, st) :=
  if_pos h

/-- R94: the scalar loop from the registers of its opening. -/
theorem poisFunction_of_small {p : Params} {rate : Int} (hpos : 0 < rate) (h : rate ≤ p.tSmall) (fuel : Nat)
    (st : Word) :
    poisFunction p fuel rate st = scalarLoop p fuel (startMantissa p rate) (digitBudget rate) 0 st := by
  rw [poisFunction, if_neg hpos.not_ge, if_pos h, poisScalar]

/-- R102: the 16-lane loop from the registers of its opening. -/
theorem poisFunction_of_medium {p : Params} {rate : Int} (hpos : 0 < rate) (hlow : p.tSmall < rate)
    (h : rate ≤ p.tMed) (fuel : Nat) (st : Word) :
    poisFunction p fuel rate st =
      lanesLoop p (digitBudget rate) (startMantissa p rate) fuel lanesOne 0 st := by
  rw [poisFunction, if_neg hpos.not_ge, if_neg hlow.not_ge, if_pos h, poisVector]

/-- R113: the set-up does not depend on what the working registers held. -/
theorem sameRate_ptrsSetup (p : Params) (u : Int) (v w : Work) : SameRate (ptrsSetup p u v) (ptrsSetup p u w) :=
  ⟨rfl, rfl, rfl, rfl, rfl, rfl, rfl⟩

/-- R121: the PTRS loop from the registers of its set-up. -/
theorem poisFunction_of_large {p : Params} {rate : Int} (hpos : 0 < rate) (hlow : p.tSmall < rate)
    (h : p.tMed < rate) (fuel : Nat) (st : Word) (w : Work) :
    poisFunction p fuel rate st = ptrsLoop p rate (ptrsSetup p rate w) fuel st := by
  rw [poisFunction, if_neg hpos.not_ge, if_neg hlow.not_ge, if_neg h.not_ge, poisPtrs]
  exact ptrsLoop_congr p rate (sameRate_ptrsSetup p rate Work.reset w) fuel st

theorem poisWith_of_ptrs (p : Params) {s : State} (h : s.engine = .ptrs) : poisWith p s = .next (ptrsIter p s) := by
  simp only [poisWith, h]

/-- R91: from the state that the first step leaves, the block runs to where the function answers. -/
theorem runs_poisStart {s : State} (h : Running s) (hseed : s.status.seeded = true) (fuel : Nat) :
    ∃ t, runs fuel (poisStart params s) = .next t
      ∧ Reaches s (poisFunction params fuel (rateOf s) s.stream) t := by
  have hmax := rateOf_le_rateMax s
  rcases le_or_gt (rateOf s) 0 with hzero | hpos
  · rw [poisStart_of_nonpos hseed hmax hzero, poisFunction_of_nonpos hzero]
    exact ⟨_, h.runs_completed (Advanced.refl s) 0 fuel, s, Advanced.refl s, rfl, rfl⟩
  rcases le_or_gt (rateOf s) params.tSmall with hsmall | hlow
  · rw [poisStart_of_small hseed hmax hpos hsmall, poisFunction_of_small hpos hsmall]
    have hopen := ((Advanced.refl s).setWork (scalarOpen params (rateOf s) s.work)).setEngine .scalar
    exact runs_of_follows (fun _ => poisWith_of_scalar params) (fun _ => rfl) (scalarLoop_follows params) fuel h
      hopen rfl
  rcases le_or_gt (rateOf s) params.tMed with hmed | hlarge
  · rw [poisStart_of_medium hseed hmax hpos hlow hmed, poisFunction_of_medium hpos hlow hmed]
    have hopen := (((Advanced.refl s).setWork (lanesOpen params (rateOf s) s.work)).setLanes
      { s.lanes with cur := lanesOne }).setEngine .lanes
    exact runs_of_follows (fun _ => poisWith_of_lanes params) (fun _ => rfl) (lanesLoop_follows params) fuel h
      hopen rfl
  · rw [poisStart_of_large hseed hmax hpos hlow hlarge, poisFunction_of_large hpos hlow hlarge fuel s.stream s.work]
    have hopen := ((Advanced.refl s).setWork (ptrsSetup params (rateOf s) s.work)).setEngine .ptrs
    exact runs_of_follows (fun _ => poisWith_of_ptrs params) (fun _ => rfl) (ptrsLoop_follows params) fuel h
      hopen rfl

/-- Settles O56: the first step, then the loop it opens. -/
theorem poisRunComputesTheEngineFunction : Obligations.PoisRunComputesTheEngineFunction := by
  intro s fuel hag hbusy hcmd hstart hseed
  have h : Running s := ⟨hag, hbusy, hcmd⟩
  obtain ⟨t, hrun, hreach⟩ := runs_poisStart h hseed fuel
  have hfirst : step s = .next (poisStart params s) := h.step (poisWith_of_start params hstart)
  refine ⟨t, (runs_succ_of_next hfirst fuel).trans hrun, ?_⟩
  change Reaches s (poisFunction params fuel s.opa.toInt s.stream) t at hreach
  generalize poisFunction params fuel s.opa.toInt s.stream = r at hreach
  cases r with
  | none =>
    obtain ⟨hcmd, hopa, hopb, hres0, hres1, hcause, henv, hstatus⟩ := Advanced.frame hreach
    exact ⟨hcmd, hopa, hopb, hres1, hcause, henv, nofun, fun _ => ⟨hstatus, hres0⟩⟩
  | some a =>
    obtain ⟨k, st'⟩ := a
    obtain ⟨u, hu, hst, rfl⟩ := hreach
    obtain ⟨hcmd, hopa, hopb, -, hres1, hcause, henv, hstatus⟩ := hu.frame
    refine ⟨hcmd, hopa, hopb, hres1, hcause, henv, fun k' st'' hr => ?_, nofun⟩
    cases hr
    exact ⟨countWord_eq k, hst, congrArg flagsCompleted hstatus⟩

end Sys2Proof.Proofs.PoisRun

/-! PROOFS. The transformed-rejection engine: the set-up, the stages of an iteration as formulas with the default
constants, and the two paths of one iteration (spec/44_poisson_ptrs.md R112 to R122). -/

namespace Sys2Proof.Proofs.PtrsEngine

open Sys2Proof.Machine
open Sys2Proof.Proofs.HiddenState (ptrsSqueeze_snd)
open Sys2Proof.Proofs.Stream (streamAfter_eq)
open Sys2Proof.Proofs.PoisDispatch (exec_pois countWord_eq)
open Sys2Proof.Proofs.PoisRun (poisWith_of_ptrs)

/-! ### The set-up -/

/-- Settles O55: each register by its formula, the constants being those of the default build. -/
theorem ptrsSetupFormulas : Obligations.PtrsSetupFormulas :=
  fun _ _ => ⟨rfl, rfl, rfl, rfl, rfl, rfl, rfl⟩

/-! ### The uniforms -/

/-- R112: the upper half of a draw is its quotient by `2^32`. -/
theorem upperHalf_eq (r : Word) : upperHalf r = (r.toNat : Int) / 2 ^ 32 := by
  rw [upperHalf, BitVec.extractLsb'_toNat, Nat.shiftRight_eq_div_pow]
  omega

/-! ### The registers before the tests -/

/-- R115, R116: what the fast path writes, with the affine formula of the candidate. -/
theorem ptrsFastPath_eq (u : Int) (w : Work) :
    let U : Int := Int.fdiv (w.V * 2 ^ 32) w.vr - 0x6E147AE1
    let us : Int := 0x80000000 - |U|
    let k : Int := ((Int.fdiv (2 * w.a * 2 ^ 32) us + w.b) * U / 2 ^ 32 + u + 0x71EB851F) / 2 ^ 32
    ptrsFastPath params u w = { w with U := U, us := us, k := k } := rfl

/-- R117: the sub-case `V ≥ vr` leaves `V` as drawn. -/
theorem ptrsSlow_of_ge {w : Work} (h : w.vr ≤ w.V) :
    ptrsSlow params w = { w with U := w.t - 2 ^ 31, us := 2 ^ 31 - |w.t - 2 ^ 31| } := by
  rw [ptrsSlow, ptrsReassign, if_pos h]; rfl

/-- R117: the sub-case `V < vr` draws `V` anew. -/
theorem ptrsSlow_of_lt {w : Work} (h : w.V < w.vr) {Uo U : Int} (hUo : Uo = Int.fdiv (w.V * 2 ^ 32) w.vr - 0xEE147AE1)
    (hU : U = (if 0 ≤ Uo then 2 ^ 31 else -2 ^ 31) - Uo) :
    ptrsSlow params w = { w with U := U, V := w.t * w.vr / 2 ^ 32, us := 2 ^ 31 - |U| } := by
  subst hU hUo
  rw [ptrsSlow, ptrsReassign, if_neg h.not_ge]; rfl

/-- R117: the reassignment with both sub-cases as one formula. -/
theorem ptrsSlow_eq (w : Work) :
    let Uo : Int := Int.fdiv (w.V * 2 ^ 32) w.vr - 0xEE147AE1
    let U : Int := if w.vr ≤ w.V then w.t - 2 ^ 31 else (if 0 ≤ Uo then 2 ^ 31 else -2 ^ 31) - Uo
    let V : Int := if w.vr ≤ w.V then w.V else w.t * w.vr / 2 ^ 32
    ptrsSlow params w = { w with U := U, V := V, us := 2 ^ 31 - |U| } := by
  dsimp only
  rcases le_or_gt w.vr w.V with h | h
  · simp only [if_pos h]; exact ptrsSlow_of_ge h
  · simp only [if_neg h.not_ge]; exact ptrsSlow_of_lt h rfl rfl

/-- R117: the quotient of `V` by a larger `vr` is below 1 in UQ0.32. -/
theorem fdiv_uniform_range {V vr : Int} (hV : 0 ≤ V) (h : V < vr) :
    0 ≤ Int.fdiv (V * 2 ^ 32) vr ∧ Int.fdiv (V * 2 ^ 32) vr < 2 ^ 32 := by
  rw [Int.fdiv_eq_ediv_of_nonneg _ (by omega)]
  exact ⟨Int.ediv_nonneg (by omega) (by omega), Int.ediv_lt_of_lt_mul (by omega) (by omega)⟩

/-- Settles O52: in each sub-case `U` is at most one half in size. -/
theorem slowPathKeepsUsNonNegative : Obligations.SlowPathKeepsUsNonNegative := by
  intro w hvr hV ht0 ht
  rcases le_or_gt w.vr w.V with h | h
  · rw [ptrsSlow_of_ge h]
    have hU : |w.t - 2 ^ 31| ≤ 2 ^ 31 := abs_le.mpr ⟨by omega, by omega⟩
    exact Int.sub_nonneg_of_le hU
  · obtain ⟨hlow, hhigh⟩ := fdiv_uniform_range hV h
    rw [ptrsSlow_of_lt h rfl rfl]
    generalize Int.fdiv (w.V * 2 ^ 32) w.vr = q at hlow hhigh
    apply Int.sub_nonneg_of_le
    apply abs_le.mpr
    split <;> constructor <;> omega

/-! ### The tests of a candidate -/

/-- R119: from 10 on the correction is not negative, because `2^32 / (360 k²)` is below the constant `1/12`. -/
theorem ptrsCorr_nonneg {w : Work} (h : 10 ≤ w.k) : 0 ≤ (ptrsCorr params w).corr := by
  have hsquare : 36000 ≤ 360 * w.k * w.k := by nlinarith
  have hterm : Int.fdiv (2 ^ 32) (360 * w.k * w.k) < 0x15555555 := by
    rw [Int.fdiv_eq_ediv_of_nonneg _ (by omega)]
    exact Int.ediv_lt_of_lt_mul (by omega) (by omega)
  exact Int.fdiv_nonneg (Int.sub_nonneg_of_le hterm.le) (by omega)

/-- R119: the correction only lowers the right side, so the second stage alone decides. -/
theorem ptrsSqueeze_accepts_iff (u : Int) {w : Work} (h : 10 ≤ w.k) :
    (ptrsSqueeze params u w).2 = true ↔
      (ptrsSides params u w).lhs < (ptrsSides params u w).rhs0 - (ptrsCorr params (ptrsSides params u w)).corr := by
  have hcorr : 0 ≤ (ptrsCorr params (ptrsSides params u w)).corr := ptrsCorr_nonneg h
  rw [ptrsSqueeze_snd, Bool.and_eq_true, decide_eq_true_iff, decide_eq_true_iff]
  omega

/-- Settles O53: the correction is not negative, so what passes the second stage has passed the first. -/
theorem squeezeStagesAgree : Obligations.SqueezeStagesAgree :=
  fun u _ h => ⟨ptrsCorr_nonneg h, ptrsSqueeze_accepts_iff u h⟩

/-- R14: below 10 the table has an entry, so what stands past its end does not matter. -/
theorem lnFactAt_of_lt {k : Nat} (h : k < 10) : lnFactAt params k = params.lnFact.getD k 0 := by
  have hlen : k < params.lnFact.length := h
  rw [lnFactAt, List.getD_eq_getElem _ _ hlen, List.getD_eq_getElem _ _ hlen]

/-- R120: the test below 10. -/
theorem ptrsTable_accepts_iff (u : Int) {w : Work} (h : w.k.toNat < 10) :
    (ptrsTable params u w).2 = true ↔
      lnFix params (BitVec.ofInt 64 (max w.Vp 1)) < w.k * w.lnu - u - params.lnFact.getD w.k.toNat 0 := by
  rw [← lnFactAt_of_lt h]
  exact decide_eq_true_iff

/-- Settles O54: the candidate is its own index into the table. -/
theorem smallCandidatesUseTheTable : Obligations.SmallCandidatesUseTheTable := by
  intro u w k hk
  have hindex : w.k.toNat = k.val := by omega
  have h := ptrsTable_accepts_iff u (w := w) (by omega)
  rw [hindex, hk] at h
  exact h

/-- R118 to R120: the test that decides a candidate. -/
theorem ptrsDecide_accepts_iff (u : Int) (w : Work) :
    (ptrsDecide params u w).2 = true ↔
      (10 ≤ w.k → (ptrsSqueeze params u (ptrsRescale w)).2 = true)
        ∧ (w.k < 10 → (ptrsTable params u (ptrsRescale w)).2 = true) := by
  rcases le_or_gt 10 w.k with h | h
  · have hsq : ptrsDecide params u w = ptrsSqueeze params u (ptrsRescale w) := if_pos h
    rw [hsq]; simp [h]
  · have htable : ptrsDecide params u w = ptrsTable params u (ptrsRescale w) := if_neg h.not_ge
    rw [htable]; simp [h]

/-- R117: the guard, on numbers. -/
theorem ptrsGuard_iff (w : Work) : ptrsGuard params w = true ↔ w.us = 0 ∨ (w.us < 0x0353F7CF ∧ w.us < w.V) := by
  rw [ptrsGuard, Bool.or_eq_true, Bool.and_eq_true, decide_eq_true_iff, decide_eq_true_iff, decide_eq_true_iff]
  rfl

/-- R117 to R120: past the guard and the range check the slow path is the test of its candidate. -/
theorem ptrsSlowPath_of_candidate {p : Params} {u : Int} {w v : Work} (hv : v = ptrsSlow p w)
    (hguard : ¬ ptrsGuard p v = true) (hlow : 0 ≤ ptrsK p u v) (hhigh : ptrsK p u v < 2 ^ 32) :
    ptrsSlowPath p u w = ptrsDecide p u { v with k := ptrsK p u v } := by
  have hrange : ¬ (ptrsK p u v < 0 ∨ 2 ^ 32 - 1 < ptrsK p u v) := by omega
  subst hv
  exact (if_neg hguard).trans (if_neg hrange)

/-- R117 to R120: the slow path accepts a candidate that passes the guard, the range check and its test. -/
theorem ptrsSlowPath_accepts_iff (p : Params) (u : Int) {w v : Work} (hv : v = ptrsSlow p w) :
    (ptrsSlowPath p u w).2 = true ↔
      ¬ ptrsGuard p v = true ∧ 0 ≤ ptrsK p u v ∧ ptrsK p u v < 2 ^ 32
        ∧ (ptrsDecide p u { v with k := ptrsK p u v }).2 = true := by
  refine ⟨fun h => ?_, fun ⟨hguard, hlow, hhigh, h⟩ => ptrsSlowPath_of_candidate hv hguard hlow hhigh ▸ h⟩
  subst hv
  unfold ptrsSlowPath at h
  dsimp only at h
  split at h
  · cases h
  next hguard =>
    split at h
    · cases h
    · exact ⟨hguard, by omega, by omega, h⟩

/-- R118 to R120: the test leaves the candidate as it is. -/
theorem ptrsSlowPath_k {p : Params} {u : Int} {w v : Work} (hv : v = ptrsSlow p w)
    (h : (ptrsSlowPath p u w).2 = true) : (ptrsSlowPath p u w).1.k = ptrsK p u v := by
  obtain ⟨hguard, hlow, hhigh, -⟩ := (ptrsSlowPath_accepts_iff p u hv).mp h
  rw [ptrsSlowPath_of_candidate hv hguard hlow hhigh, (sameSetup_decide p u _).2]

/-- What the tests of R117 to R120 write: the candidate and the registers of its test. -/
def WritesTest (v w : Work) : Prop :=
  ∃ k den Vp lhs rhs0 rhs corr : Int,
    v = { w with k := k, den := den, Vp := Vp, lhs := lhs, rhs0 := rhs0, rhs := rhs, corr := corr }

/-- R118 to R120: a test writes its own registers only. -/
theorem writesTest_decide (p : Params) (u : Int) (w : Work) : WritesTest (ptrsDecide p u w).1 w := by
  unfold ptrsDecide ptrsSqueeze
  dsimp only
  split
  · split <;> exact ⟨_, _, _, _, _, _, _, rfl⟩
  · exact ⟨_, _, _, _, _, _, _, rfl⟩

/-- R117 to R120: past the reassignment the slow path writes the candidate and the registers of its test. -/
theorem writesTest_slowPath (p : Params) (u : Int) (w : Work) : WritesTest (ptrsSlowPath p u w).1 (ptrsSlow p w) := by
  unfold ptrsSlowPath
  dsimp only
  split
  · exact ⟨_, _, _, _, _, _, _, rfl⟩
  · split
    · exact ⟨_, _, _, _, _, _, _, rfl⟩
    · obtain ⟨k, den, Vp, lhs, rhs0, rhs, corr, h⟩ :=
        writesTest_decide p u { ptrsSlow p w with k := ptrsK p u (ptrsSlow p w) }
      exact ⟨k, den, Vp, lhs, rhs0, rhs, corr, h⟩

/-! ### One iteration -/

/-- R116, R60: an iteration that stops after one draw. The drawn stream is a variable, so that no sum of words is
compared by counting. -/
theorem ptrsIter_of_fast (p : Params) (s : State) {st : Word} (hst : st = s.stream + p.prngInc) {V : Int}
    (hV : V = (nextRaw p s.stream).1.toNat / 2 ^ 32) (h : V < s.work.vr86) {w : Work}
    (hw : w = ptrsFastPath p (s64 s.opa) { s.work with V := V }) :
    ptrsIter p s =
      { s with
        stream := st, work := w, res0 := BitVec.ofInt 64 (w.k % 2 ^ 32), engine := .start,
        status := { s.status with busy := false, done := true } } := by
  rw [← upperHalf_eq] at hV
  subst hV
  obtain ⟨v, rfl, ⟨-, hiter⟩ | ⟨hge, -⟩⟩ := ptrsIter_cases p s
  · rw [hiter, ← hst, ← hw, countWord_eq]; rfl
  · exact absurd h hge.not_gt

/-- R117 to R121, R60: an iteration with two draws, by whether its slow path accepts. -/
theorem ptrsIter_of_slow (p : Params) (s : State) {st : Word} (hst : st = streamAfter p s.stream 2) {V t : Int}
    (hV : V = (nextRaw p s.stream).1.toNat / 2 ^ 32)
    (ht : t = (nextRaw p (s.stream + p.prngInc)).1.toNat / 2 ^ 32) (h : s.work.vr86 ≤ V) {r : Work × Bool}
    (hr : r = ptrsSlowPath p (s64 s.opa) { s.work with V := V, t := t }) :
    ptrsIter p s =
      if r.2 then
        { s with
          stream := st, work := r.1, res0 := BitVec.ofInt 64 (r.1.k % 2 ^ 32), engine := .start,
          status := { s.status with busy := false, done := true } }
      else { s with stream := st, work := r.1 } := by
  rw [← upperHalf_eq] at hV ht
  subst hV ht
  have hst' : s.stream + p.prngInc + p.prngInc = st := hst.symm
  obtain ⟨v, rfl, ⟨hlt, -⟩ | ⟨-, r', hr', hiter⟩⟩ := ptrsIter_cases p s
  · exact absurd h hlt.not_ge
  · rw [hiter, hst', hr'.trans hr.symm, countWord_eq]; rfl

/-- Settles O50: the registers that the fast path leaves, by their formulas. -/
theorem ptrsFastPathReturns : Obligations.PtrsFastPathReturns := by
  intro s hptrs V U us k hfast
  have hpath : ptrsFastPath params (s64 s.opa) { s.work with V := V } =
      { s.work with V := V, U := U, us := us, k := k } := ptrsFastPath_eq _ _
  rw [exec_pois, poisWith_of_ptrs params hptrs, ptrsIter_of_fast params s rfl rfl hfast hpath.symm]

/-- Settles O51: the slow path accepts by the tests written out, on the candidate written out. -/
theorem ptrsSlowPathDecidesByItsTests : Obligations.PtrsSlowPathDecidesByItsTests := by
  intro s hptrs V0 t u Uo U V us k den Vp ln corr table guarded accepted hslow
  let w0 : Work := { s.work with V := V0, t := t }
  have hv : ptrsSlow params w0 = { s.work with V := V, t := t, U := U, us := us } := ptrsSlow_eq w0
  have haccepts : (ptrsSlowPath params u w0).2 = true ↔ accepted := by
    rw [ptrsSlowPath_accepts_iff params u hv.symm, ptrsGuard_iff, ptrsDecide_accepts_iff]
    exact and_congr_right' <| and_congr_right' <| and_congr_right' <|
      and_congr (forall_congr' fun h => ptrsSqueeze_accepts_iff u h)
        (forall_congr' fun h => ptrsTable_accepts_iff u ((Int.toNat_lt' (by decide)).mpr h))
  have hcandidate : accepted → (ptrsSlowPath params u w0).1.k % 2 ^ 32 = k := fun h => by
    rw [ptrsSlowPath_k hv.symm (haccepts.mpr h)]
    obtain ⟨-, hlow, hhigh, -⟩ := h
    exact Int.emod_eq_of_lt hlow hhigh
  have hst : s.stream + 2 * params.prngInc = streamAfter params s.stream 2 := (streamAfter_eq _ _ 2).symm
  have hiter := ptrsIter_of_slow params s hst (V := V0) (t := t) rfl rfl hslow (r := ptrsSlowPath params u w0) rfl
  obtain ⟨_, _, _, _, _, _, _, hw⟩ := writesTest_slowPath params u w0
  rw [hv] at hw
  refine ⟨(ptrsSlowPath params u w0).1, fun h => ?_, fun h => ?_, ?_⟩
  · rw [exec_pois, poisWith_of_ptrs params hptrs, hiter, if_pos (haccepts.mpr h), hcandidate h]
  · rw [exec_pois, poisWith_of_ptrs params hptrs, hiter, if_neg (haccepts.not.mpr h)]
  · rw [hw]
    exact ⟨rfl, rfl, rfl, rfl, rfl, rfl, rfl, rfl, rfl, rfl, rfl, rfl, rfl, rfl, rfl⟩

end Sys2Proof.Proofs.PtrsEngine

/-! PROOFS. Faults: what a step that faults writes, the causes of `POIS`, an illegal word, and a fault outstanding
until the host clears it (spec/60_exceptions.md). -/

namespace Sys2Proof.Proofs.Faults

open Sys2Proof.Machine
open Sys2Proof.Proofs.HiddenState (runs_succ_of_next)
open Sys2Proof.Proofs.Port
open Sys2Proof.Proofs.Encoding (rejectsByReservedBitsThenOpcode)
open Sys2Proof.Proofs.Stream (step_of_no_agenda exec_next_of_unseeded)
open Sys2Proof.Proofs.PoisDispatch (poisWith_of_start exec_pois rateOf_le_rateMax)

/-! ### A step faults, or keeps the flag and the cause -/

/-- What a step that raises no fault leaves alone. -/
structure KeepsFault (t s : State) : Prop where
  err : t.status.err = s.status.err
  cause : t.cause = s.cause

/-- R134, R136: the first step of `POIS` faults by one of its two checks, or keeps the flag and the cause. -/
theorem poisStart_faults_or_keeps (p : Params) (s : State) :
    poisStart p s = raiseFault .noSeed s
    ∨ (p.rateMax < rateOf s ∧ poisStart p s = raiseFault .rateRange s)
    ∨ KeepsFault (poisStart p s) s := by
  obtain ⟨-, h⟩ | ⟨-, hmax, h⟩ | ⟨-, -, hcase⟩ := poisStart_cases p s
  · exact .inl h
  · exact .inr (.inl ⟨hmax, h⟩)
  · refine .inr (.inr ?_)
    obtain ⟨-, h⟩ | ⟨-, -, h⟩ | ⟨-, -, -, h⟩ | ⟨-, -, -, h⟩ := hcase <;> (rw [h]; exact ⟨rfl, rfl⟩)

/-- R94: an iteration of the scalar loop raises no fault. -/
theorem scalarIter_keepsFault (p : Params) (s : State) : KeepsFault (scalarIter p s) s := by
  obtain ⟨w, -, ⟨-, h⟩ | ⟨-, h⟩⟩ := scalarIter_cases p s <;> (rw [h]; exact ⟨rfl, rfl⟩)

/-- R102: an iteration of the 16-lane loop raises no fault. -/
theorem lanesIter_keepsFault (p : Params) (s : State) : KeepsFault (lanesIter p s) s := by
  obtain ⟨x, -, t, rfl, ⟨-, h⟩ | ⟨-, i, -, h⟩⟩ := lanesIter_cases p s <;> (rw [h]; exact ⟨rfl, rfl⟩)

/-- R121, R140 (a): an iteration of the PTRS loop raises no fault, a rejected one included. -/
theorem ptrsIter_keepsFault (p : Params) (s : State) : KeepsFault (ptrsIter p s) s := by
  obtain ⟨w, -, ⟨-, h⟩ | ⟨-, ⟨v, accepted⟩, -, h⟩⟩ := ptrsIter_cases p s
  · rw [h]; exact ⟨rfl, rfl⟩
  · cases accepted <;> (rw [h]; exact ⟨rfl, rfl⟩)

/-- R134: on the default build, whose ceiling no rate is above, `POIS` faults for its seed alone. -/
theorem exec_pois_faults_or_keeps {s t : State} (h : exec .pois s = .next t) :
    t = raiseFault .noSeed s ∨ KeepsFault t s := by
  obtain ⟨-, rfl⟩ | ⟨-, rfl⟩ | ⟨-, rfl⟩ | ⟨-, rfl⟩ := exec_pois_cases s t h
  · obtain hfault | ⟨hmax, -⟩ | hkeep := poisStart_faults_or_keeps params s
    · exact .inl hfault
    · exact absurd hmax (rateOf_le_rateMax s).not_gt
    · exact .inr hkeep
  · exact .inr (scalarIter_keepsFault params s)
  · exact .inr (lanesIter_keepsFault params s)
  · exact .inr (ptrsIter_keepsFault params s)

/-- R135: a block step of a command is a fault and nothing else, or no fault. -/
theorem exec_faults_or_keeps {i : Instr} {s t : State} (h : exec i s = .next t) :
    (∃ c, c ≠ .noFault ∧ t = raiseFault c s) ∨ KeepsFault t s := by
  by_cases hi : i = .pois
  · subst hi
    exact (exec_pois_faults_or_keeps h).imp_left fun ht => ⟨.noSeed, by decide, ht⟩
  · obtain ⟨c, hc, -, rfl⟩ | ⟨r0, r1, rfl, -, -⟩ | ⟨-, -, rfl⟩ := exec_simple_cases i s t hi h
    · exact .inl ⟨c, hc, rfl⟩
    · exact .inr ⟨rfl, rfl⟩
    · exact .inr ⟨by simp [completeRes0, draw_snd], by simp [completeRes0, draw_snd]⟩

/-- R130, R135: a move of the block is a fault and nothing else, or no fault. -/
theorem blockTurn_faults_or_keeps {s t : State} (h : blockTurn s = .next t) :
    (∃ c, c ≠ .noFault ∧ t = raiseFault c s) ∨ KeepsFault t s := by
  obtain ⟨-, rfl⟩ | ⟨-, i, -, hexec⟩ | ⟨-, -, rfl⟩ := blockTurn_cases s t h
  · exact .inr ⟨rfl, rfl⟩
  · exact exec_faults_or_keeps hexec
  · exact .inl ⟨.illegalCmd, by decide, rfl⟩

/-- Settles O20: a step that sets `ERR` has not kept it, so that it is the fault. -/
theorem faultsArePrecise : Obligations.FaultsArePrecise := by
  intro s t h hbefore hafter
  obtain ⟨c, hc, rfl⟩ | hkeep := blockTurn_faults_or_keeps h
  · exact ⟨c, hc, rfl⟩
  · exact absurd (hbefore.symm.trans (hkeep.err.symm.trans hafter)) (by decide)

/-! ### The checks of POIS -/

/-- R133: the seed is checked first. -/
theorem poisStart_of_unseeded (p : Params) {s : State} (h : s.status.seeded = false) :
    poisStart p s = raiseFault .noSeed s :=
  if_pos h

/-- R134, R136: the ceiling is checked after the seed and before anything else. -/
theorem poisStart_of_above_ceiling {p : Params} {s : State} (hseed : s.status.seeded = true)
    (hmax : p.rateMax < rateOf s) : poisStart p s = raiseFault .rateRange s := by
  rw [poisStart, if_neg (by simp [hseed]), if_pos hmax]

/-- Settles O39: the second check on every build, and the one fault that `POIS` has on the default build. -/
theorem rateCeilingFaults : Obligations.RateCeilingFaults := by
  refine ⟨fun p s hstart hseed hmax => ?_, fun s t h hcause => ?_⟩
  · rw [poisWith_of_start p hstart, poisStart_of_above_ceiling hseed hmax]
    rfl
  · obtain rfl | hkeep := exec_pois_faults_or_keeps h
    · rw [raiseFault_cause]; decide
    · rwa [hkeep.cause]

/-- Settles O24: both commands check the seed before they look at anything else. -/
theorem unseededStreamFaults : Obligations.UnseededStreamFaults := by
  intro s hseed hstart i hi
  simp only [List.mem_cons, List.not_mem_nil, or_false] at hi
  obtain rfl | rfl := hi
  · exact exec_next_of_unseeded hseed
  · rw [exec_pois, poisWith_of_start params hstart, poisStart_of_unseeded params hseed]
    rfl

/-! ### A write of CMD -/

/-- R44: a block that is idle and has no fault outstanding accepts the word. -/
theorem hostWrite_cmd_of_accepting {s : State} (hbusy : s.status.busy = false) (herr : s.status.err = false)
    (w : Word) : hostWrite 0x08 w s = issue w s := by
  rw [hostWrite_cmd, writeCmd, if_neg (by simp [hbusy, herr])]

/-- R138: a block with a fault outstanding drops the word. -/
theorem hostWrite_cmd_of_faulted {s : State} (herr : s.status.err = true) (w : Word) :
    hostWrite 0x08 w s = dropWrite s := by
  rw [hostWrite_cmd, writeCmd, if_pos (by simp [herr])]

/-! ### An illegal word -/

/-- R132: a word that is none of the twelve is rejected, for its reserved bits or for its opcode. -/
theorem decode_of_illegal {w : Word}
    (h : 256 ≤ w.toNat ∨ w.toNat % 256 ∉
      [0x00, 0x01, 0x10, 0x11, 0x12, 0x13, 0x20, 0x21, 0x22, 0x23, 0x24, 0x30]) :
    ∃ r, decode w = .error r := by
  obtain ⟨hreserved, hopcode⟩ := rejectsByReservedBitsThenOpcode w
  by_cases hw : 256 ≤ w.toNat
  · exact ⟨_, hreserved.mpr hw⟩
  · have hlt : w.toNat < 256 := not_le.mp hw
    have hop := h.resolve_left hw
    rw [Nat.mod_eq_of_lt hlt] at hop
    exact ⟨_, hopcode.mpr ⟨hlt, hop⟩⟩

/-- R51, R132: a running block whose word is rejected faults. -/
theorem blockTurn_of_rejected {s : State} {r : Reject} (hbusy : s.status.busy = true)
    (hdecode : decode s.cmd = .error r) : blockTurn s = .next (raiseFault .illegalCmd s) := by
  simp only [blockTurn, hbusy, hdecode, if_true]

/-- R44, R46: a `CMD` write on the schedule that is accepted issues its word. -/
theorem step_of_cmd_write {s : State} {w : Word} {rest : List Event}
    (hag : s.env.agenda = .access (.write 0x08 8 w) :: rest) (hbusy : s.status.busy = false)
    (herr : s.status.err = false) : step s = .next (issue w (setAgenda rest s)) := by
  have hserved : step s = .next (serveAccess (.write 0x08 8 w) (setAgenda rest s)) :=
    ((scheduleEntriesAreServed s rest).1 _ hag).1 ⟨rfl, Nat.mod_self 8, (by decide : 0x08 ≤ 0xF8)⟩
  have hissue : serveAccess (.write 0x08 8 w) (setAgenda rest s) = issue w (setAgenda rest s) :=
    hostWrite_cmd_of_accepting (s := setAgenda rest s) hbusy herr w
  rw [hserved, hissue]

/-- Settles O9: the first step issues the word, and the second, a move of the block, rejects it. -/
theorem illegalWordFaults : Obligations.IllegalWordFaults := by
  intro s w hillegal hbusy herr hag
  obtain ⟨r, hdecode⟩ := decode_of_illegal hillegal
  have hissue : step s = .next (issue w (setAgenda [] s)) := step_of_cmd_write hag hbusy herr
  have hfault : step (issue w (setAgenda [] s)) = .next (raiseFault .illegalCmd (issue w (setAgenda [] s))) :=
    (step_of_no_agenda rfl).trans (blockTurn_of_rejected rfl hdecode)
  exact ⟨runs_succ_of_next hissue 0, (runs_succ_of_next hissue 1).trans (runs_succ_of_next hfault 0), rfl⟩

/-! ### A fault outstanding -/

/-- R44: an idle block takes the writes that only `BUSY` drops. -/
theorem takenWhenIdle_of_idle {s : State} (h : s.status.busy = false) (take : State → State) :
    takenWhenIdle take s = take s :=
  if_neg (by simp [h])

/-- R139: a `STATUS` write with bit 2 set and bit 4 clear is the clearing of the fault. -/
theorem hostWrite_status_of_clear {v : Word} (hclear : v.getLsbD 2 = true) (hkeep : v.getLsbD 4 = false) (s : State) :
    hostWrite 0x10 v s = clearFault s := by
  rw [hostWrite_status, writeStatus_eq, hclear, hkeep]
  rfl

/-- Settles O18: the drop by `ERR`, the three writes that `ERR` does not drop, and the command accepted once the
fault is cleared. -/
theorem faultBlocksCommandsUntilCleared : Obligations.FaultBlocksCommandsUntilCleared := by
  intro s w v herr hbusy
  refine ⟨hostWrite_cmd_of_faulted herr w, ?_, ?_, ?_, fun hclear hkeep => ?_⟩
  · rw [hostWrite_opa, takenWhenIdle_of_idle hbusy]; rfl
  · rw [hostWrite_opb, takenWhenIdle_of_idle hbusy]; rfl
  · rw [hostWrite_stream, takenWhenIdle_of_idle hbusy]; rfl
  · have haccepted : hostWrite 0x08 w (clearFault s) = issue w (clearFault s) :=
      hostWrite_cmd_of_accepting (s := clearFault s) hbusy rfl w
    rw [hostWrite_status_of_clear hclear hkeep, haccepted]
    exact ⟨rfl, rfl⟩

end Sys2Proof.Proofs.Faults

/-! PROOFS. Reset and hazards: every command but `POIS` ends at its first step, and no access of the host disturbs
the command that runs (spec/70_reset_and_hazards.md R155, R156, R158, R160). -/

namespace Sys2Proof.Proofs.Hazards

open Sys2Proof.Machine
open Sys2Proof.Proofs.Port
open Sys2Proof.Proofs.PoisDispatch (poisWith_of_start exec_pois)
open Sys2Proof.Proofs.ScalarEngine (poisWith_of_scalar)
open Sys2Proof.Proofs.LaneEngine (poisWith_of_lanes)
open Sys2Proof.Proofs.PoisRun (poisWith_of_ptrs)

/-! ### The end of a command -/

/-- Settles O21, by the three things that a command other than `POIS` can do. -/
theorem simpleCommandsEndAtOnce : Obligations.SimpleCommandsEndAtOnce := by
  intro i s hi
  obtain ⟨t, h⟩ := exec_answers i s
  refine ⟨t, h, ?_⟩
  obtain ⟨c, -, -, rfl⟩ | ⟨r0, r1, rfl, -, -⟩ | ⟨-, -, rfl⟩ := exec_simple_cases i s t hi h
  · exact ⟨rfl, .inr rfl⟩
  · exact ⟨rfl, .inl rfl⟩
  · exact ⟨rfl, .inl rfl⟩

/-! ### An access while a command runs -/

/-- R43, R44: all that an access can do to a busy block. A write that changes nothing is the first case, with the
bookkeeping as it was. -/
theorem serveAccess_cases_of_busy {s : State} (hbusy : s.status.busy = true) (a : Access) :
    (∃ e, serveAccess a s = setEnv e s) ∨ (∃ v, serveAccess a s = writeStatus v s)
    ∨ serveAccess a s = dropWrite s := by
  cases a with
  | read off width => exact .inl ⟨_, rfl⟩
  | write off width v =>
    have hrunning : ¬ s.status.busy = false := by simp [hbusy]
    obtain h | h | ⟨-, h⟩ | ⟨hidle, -⟩ | ⟨hidle, -, -⟩ := hostWrite_cases off v s
    · exact .inl ⟨s.env, h⟩
    · exact .inr (.inl ⟨v, h⟩)
    · exact .inr (.inr h)
    · exact absurd hidle hrunning
    · exact absurd hidle hrunning

/-- R44: a busy block drops the writes that it takes while idle. -/
theorem takenWhenIdle_of_busy {s : State} (hbusy : s.status.busy = true) (take : State → State) :
    takenWhenIdle take s = dropWrite s :=
  if_pos hbusy

/-- R44, R156: a write of `CMD`, an operand or the stream is dropped by a busy block. -/
theorem hostWrite_dropped_of_busy {s : State} (hbusy : s.status.busy = true) {off : Nat}
    (hoff : off ∈ [0x08, 0x20, 0x28, 0x40]) (v : Word) : hostWrite off v s = dropWrite s := by
  simp only [List.mem_cons, List.not_mem_nil, or_false] at hoff
  obtain rfl | rfl | rfl | rfl := hoff
  · rw [hostWrite_cmd, writeCmd, if_pos (by simp [hbusy])]
  · rw [hostWrite_opa, takenWhenIdle_of_busy hbusy]
  · rw [hostWrite_opb, takenWhenIdle_of_busy hbusy]
  · rw [hostWrite_stream, takenWhenIdle_of_busy hbusy]

/-- Settles O14: the frame by the three things that an access can do to a busy block, and the drop by its offset. -/
theorem runningCommandIsUndisturbed : Obligations.RunningCommandIsUndisturbed := by
  intro s a hbusy _
  have hdropped : ∀ off v, a = .write off 8 v → off ∈ [0x08, 0x20, 0x28, 0x40] → serveAccess a s = dropWrite s := by
    rintro off v rfl hoff
    exact hostWrite_dropped_of_busy hbusy hoff v
  obtain ⟨e, h⟩ | ⟨v, h⟩ | h := serveAccess_cases_of_busy hbusy a <;>
    (rw [h] at hdropped ⊢
     exact ⟨rfl, rfl, rfl, rfl, rfl, rfl, rfl, rfl, rfl, hbusy, rfl, rfl, hdropped⟩)

/-! ### States that differ in `OVR` and in the bookkeeping -/

/-- The state with another `OVR` and other bookkeeping: all that an access to a coherent busy block changes. -/
def withOvrEnv (o : Bool) (e : Env) (s : State) : State := setEnv e (setStatus { s.status with ovr := o } s)

/-- R44, R155: an access to a coherent busy block. A write of `STATUS` finds no fault to clear (R24, R25). -/
theorem serveAccess_eq_withOvrEnv {s : State} (hs : Coherent s) (hbusy : s.status.busy = true) (a : Access) :
    ∃ o e, serveAccess a s = withOvrEnv o e s := by
  obtain ⟨⟨-, hexclusive, -⟩, hcause, -⟩ := hs
  have herr : s.status.err = false := by simpa [hbusy] using hexclusive
  have hnone : s.cause = .noFault := hcause.mpr herr
  obtain ⟨e, h⟩ | ⟨v, h⟩ | h := serveAccess_cases_of_busy hbusy a
  · exact ⟨s.status.ovr, e, h⟩
  · refine ⟨if v.getLsbD 4 then false else s.status.ovr, s.env, ?_⟩
    have herr' : (if v.getLsbD 2 then false else s.status.err) = s.status.err := by rw [herr, ite_self]
    have hcause' : (if v.getLsbD 2 then .noFault else s.cause) = s.cause := by rw [hnone, ite_self]
    rw [h, writeStatus_eq, herr', hcause']
    rfl
  · exact ⟨true, s.env, h⟩

/-- An answer with its next state changed. -/
def mapNext (f : State → State) : Result → Result
  | .next s => .next (f s)
  | .fault r => .fault r
  | .refused r => .refused r

section
variable (o : Bool) (e : Env) (p : Params) (s : State)

/-- R91: the checks and the set-up of `POIS` read and write neither. -/
theorem poisStart_withOvrEnv : poisStart p (withOvrEnv o e s) = withOvrEnv o e (poisStart p s) := by
  simp only [poisStart, apply_ite (withOvrEnv o e)]
  rfl

/-- R94: an iteration of the scalar loop reads and writes neither. -/
theorem scalarIter_withOvrEnv : scalarIter p (withOvrEnv o e s) = withOvrEnv o e (scalarIter p s) := by
  simp only [scalarIter, apply_ite (withOvrEnv o e)]
  rfl

/-- R102: nor does an iteration of the 16-lane loop. -/
theorem lanesIter_withOvrEnv : lanesIter p (withOvrEnv o e s) = withOvrEnv o e (lanesIter p s) := by
  simp only [lanesIter, apply_ite (withOvrEnv o e)]
  rfl

/-- R121: nor does an iteration of the PTRS loop. -/
theorem ptrsIter_withOvrEnv : ptrsIter p (withOvrEnv o e s) = withOvrEnv o e (ptrsIter p s) := by
  simp only [ptrsIter, apply_ite (withOvrEnv o e)]
  rfl

/-- R91: a block step of `POIS`, position by position. -/
theorem poisWith_withOvrEnv : poisWith p (withOvrEnv o e s) = mapNext (withOvrEnv o e) (poisWith p s) := by
  cases he : s.engine with
  | start => rw [poisWith_of_start p he, poisWith_of_start p (s := withOvrEnv o e s) he, poisStart_withOvrEnv]; rfl
  | scalar => rw [poisWith_of_scalar p he, poisWith_of_scalar p (s := withOvrEnv o e s) he, scalarIter_withOvrEnv]; rfl
  | lanes => rw [poisWith_of_lanes p he, poisWith_of_lanes p (s := withOvrEnv o e s) he, lanesIter_withOvrEnv]; rfl
  | ptrs => rw [poisWith_of_ptrs p he, poisWith_of_ptrs p (s := withOvrEnv o e s) he, ptrsIter_withOvrEnv]; rfl

/-- A command that faults or completes on a condition carries both along. -/
theorem fault_or_result_withOvrEnv (P : Prop) [Decidable P] (c : Cause) (v : Word) (u : State) :
    (if P then .next (raiseFault c (withOvrEnv o e s)) else .next (completeRes0 v (withOvrEnv o e u)) : Result)
      = mapNext (withOvrEnv o e) (if P then .next (raiseFault c s) else .next (completeRes0 v u)) := by
  split <;> rfl

/-- R62: `NEXT`, whose draw carries both along. -/
theorem nextWith_withOvrEnv : nextWith p (withOvrEnv o e s) = mapNext (withOvrEnv o e) (nextWith p s) :=
  fault_or_result_withOvrEnv o e s _ _ _ (draw p s).2

/-- R73: `EXP2`. -/
theorem exp2With_withOvrEnv : exp2With p (withOvrEnv o e s) = mapNext (withOvrEnv o e) (exp2With p s) :=
  fault_or_result_withOvrEnv o e s _ _ _ s

/-- R77: `LOG2N`. -/
theorem log2nWith_withOvrEnv : log2nWith p (withOvrEnv o e s) = mapNext (withOvrEnv o e) (log2nWith p s) :=
  fault_or_result_withOvrEnv o e s _ _ _ s

/-- R79: `LOG2`. -/
theorem log2With_withOvrEnv : log2With p (withOvrEnv o e s) = mapNext (withOvrEnv o e) (log2With p s) :=
  fault_or_result_withOvrEnv o e s _ _ _ s

/-- R81: `LN`. -/
theorem lnWith_withOvrEnv : lnWith p (withOvrEnv o e s) = mapNext (withOvrEnv o e) (lnWith p s) :=
  fault_or_result_withOvrEnv o e s _ _ _ s

/-- R60: no command reads or writes either. -/
theorem exec_withOvrEnv (i : Instr) : exec i (withOvrEnv o e s) = mapNext (withOvrEnv o e) (exec i s) := by
  cases i with
  | nop | mulhu | mulhs | mulu | muls | sqrt => rfl
  | next => exact nextWith_withOvrEnv o e params s
  | exp2 => exact exp2With_withOvrEnv o e params s
  | log2n => exact log2nWith_withOvrEnv o e params s
  | log2 => exact log2With_withOvrEnv o e params s
  | ln => exact lnWith_withOvrEnv o e params s
  | pois => exact poisWith_withOvrEnv o e params s

/-- R60: no move of the block reads or writes either. -/
theorem blockTurn_withOvrEnv : blockTurn (withOvrEnv o e s) = mapNext (withOvrEnv o e) (blockTurn s) := by
  have hbusy : (withOvrEnv o e s).status.busy = s.status.busy := rfl
  have hcmd : (withOvrEnv o e s).cmd = s.cmd := rfl
  unfold blockTurn
  rw [hbusy, hcmd]
  split
  · split
    · exact exec_withOvrEnv o e s _
    · rfl
  · rfl

end

/-- Settles O15: the access changes `OVR` and the bookkeeping, which the block step carries along. -/
theorem pollingDoesNotChangeTheCommand : Obligations.PollingDoesNotChangeTheCommand := by
  intro s a hs hbusy _
  obtain ⟨o, e, haccess⟩ := serveAccess_eq_withOvrEnv hs hbusy a
  obtain ⟨t, ht⟩ := blockTurn_answers s
  refine ⟨t, withOvrEnv o e t, ht, ?_, rfl, rfl, rfl, rfl, rfl, rfl, rfl, rfl, rfl, rfl, rfl, rfl, rfl, rfl⟩
  rw [haccess, blockTurn_withOvrEnv, ht]
  rfl

end Sys2Proof.Proofs.Hazards
